-- ==== Sys2Proof/Word.lean ====
section
/-! DEFINITION. The word types of the FILINK protocol engine: bytes of the line and words of the register port. -/

namespace Sys2Proof

/-- R12: a byte is an unsigned 8-bit value. -/
abbrev Byte := BitVec 8

/-- R44: the register file is made of 32-bit words. -/
abbrev Word := BitVec 32

end Sys2Proof
end

