-- ==== Sys2Proof/Config.lean ====
section
/-! DEFINITION. What is fixed for one engine: its roles, phases and protocol states, the two host answers, and the
model's one free value (the host's answer when the state lists none). -/

namespace Sys2Proof

/-- R24: the role of a session (`ROLE_ACT`, `CTRL.ROLE`): 0 = sender, 1 = receiver. -/
inductive Role where
  | sender
  | receiver
  deriving DecidableEq, Repr, Inhabited

/-- R23: the phase bit `ph`: ACT = 0, WAIT = 1. -/
inductive Phase where
  | act
  | wait
  deriving DecidableEq, Repr, Inhabited

/-- R273: what the host answers to a file-source or file-sink operation. -/
inductive Answer where
  | ok
  | fail
  deriving DecidableEq, Repr, Inhabited

/-- The position of the engine's program counter: what the 4-bit code of `st` means in a role (R22). `unused` is a
code the role does not use (0x9 in the receiver role). -/
inductive Pos where
  | idle
  | s1 | s2 | s3 | s4 | s5 | s6 | s7 | s8 | s9
  | r1 | r2 | r3 | r4 | r5 | r6 | r7 | r8
  | done
  | aborted
  | unused
  deriving DecidableEq, Repr, Inhabited

/-- FREE VALUE (log 2). R273: a host answer is "a free input of the step that performs the operation, chosen by the
environment and bound by no rule". Used, with a fresh index each time, once `State.answers` is empty. -/
opaque Config.hostAnswer : Nat → Answer

end Sys2Proof
end

