-- ==== Sys2Proof/Syntax.lean ====
section
/-! DEFINITION. The instructions of the engine: one constructor per row of spec/opcode_table.json. The engine runs no
instruction stream; its instructions are the protocol bytes it receives, named by the state they arrive in, and the
two START commands (spec/30_encoding.md). -/

namespace Sys2Proof

/-- One constructor per row of spec/opcode_table.json (R80, R270). -/
inductive Instr where
  /-- STX 0x02, start of data block; awaited in R6 (R227). -/
  | stx
  /-- ETX 0x03, end of file; awaited in R6 (R227). -/
  | etx
  /-- EOT 0x04, about to send filename; awaited in R3 (R224). -/
  | eot
  /-- ENQ 0x05, end of filename transmission; awaited in R5 (R226). -/
  | enq
  /-- BS 0x08, ack filename request; awaited in S3 (R175). -/
  | bs
  /-- TAB 0x09, ready for file data; awaited in S5 (R179). -/
  | tab
  /-- XOFF 0x13, session complete; awaited in R3 (R224). -/
  | xoff
  /-- 'R' 0x52, sender ready; awaited in R1 (R222). -/
  | symR
  /-- 'S' 0x53, receiver ready; awaited in S1 (R171). -/
  | symS
  /-- 'G' 0x47 as the sender sends it in S2; awaited in R2 (R81, R223). -/
  | gHandshake
  /-- 'G' 0x47 as the receiver sends it in R8; awaited in S8 (R81, R184). -/
  | gAck
  /-- 'B' 0x42, bad checksum; awaited in S8 (R184). -/
  | symB
  /-- 'P' 0x50, proceed with block; awaited in S6 (R181). -/
  | symP
  /-- 'N' 0x4E, negative ack; S3, S6 and S8 abort on it (R359). -/
  | symN
  /-- 'X' 0x58, reject; S3 aborts, S4 takes it as a mismatch, S5 as "other" (R175, R177, R179). -/
  | symX
  /-- PAD 0x1A; payload in R7, an "other" byte in a control state (R82). -/
  | pad
  /-- A filename byte (R4) or its echo (S4): any value (R225, R177). -/
  | fnameByte (d : Byte)
  /-- A payload byte other than PAD, received in R7 (R228). -/
  | payloadByte (d : Byte)
  /-- The checksum byte, received in R8: any value (R229). -/
  | checksumByte (d : Byte)
  /-- CTRL write with START = 1, ROLE = 0 (R270). -/
  | startSend
  /-- CTRL write with START = 1, ROLE = 1 (R270). -/
  | startRecv
  deriving DecidableEq, Repr

end Sys2Proof
end

