-- ==== Sys2Proof/WellFormed.lean ====
section
/-! DEFINITION. Which instruction terms stand for a table row's own bytes. The operands are bytes and every byte
value is legal (R93), so there is one check: the payload byte 0x1A is the row PAD (R82; log 8). -/

namespace Sys2Proof

/-- R82, log 8: payload byte 0x1A has a row of its own, PAD; the term `payloadByte 0x1A` is not the name of it. -/
def payloadNamed (d : Byte) : Bool := d != 0x1A

/-- The instruction is the name of a byte or a command as the opcode table gives it. -/
def Instr.wellFormed : Instr → Bool
  | .payloadByte d => payloadNamed d
  | .stx | .etx | .eot | .enq | .bs | .tab | .xoff | .symR | .symS | .gHandshake | .gAck
  | .symB | .symP | .symN | .symX | .pad | .fnameByte _ | .checksumByte _ | .startSend | .startRecv => true

end Sys2Proof
end

