-- ==== Sys2Proof/Decode.lean ====
section
/-! DEFINITION. The decoder (R83: by the receiving endpoint's state only), the encoder, and the reading of a word
numbered as spec/opcode_table.json numbers it. Decoding is total: what names no row is rejected by name. -/

namespace Sys2Proof

/-- What reaches the engine as an instruction: one byte taken from the line, or one word written to CTRL. -/
inductive Code where
  | line (b : Byte)
  | ctrl (w : Word)
  deriving DecidableEq, Repr

/-- Why bits name no row of the opcode table. None of these stops the engine. -/
inductive Reject where
  /-- A byte outside the alphabet in a control state: an "other" byte (R92, R93). The step runs that response. -/
  | otherByte (b : Byte)
  /-- The state awaits no byte (R67): the byte stays queued. -/
  | notAwaiting
  /-- A CTRL write with START = 0 (R45): a write of ROLE only. -/
  | noStartBit
  deriving DecidableEq, Repr

/-- R83: the three decoders (positional data split into payload and checksum), and none where no byte is awaited. -/
inductive Reading where
  | control
  | name
  | payload
  | checksum
  | nothing
  deriving DecidableEq, Repr

/-- R83: which decoder applies in a state. -/
def Pos.reading : Pos → Reading
  | .s1 | .s3 | .s5 | .s6 | .s8 | .r1 | .r2 | .r3 | .r5 | .r6 => .control
  | .s4 | .r4 => .name
  | .r7 => .payload
  | .r8 => .checksum
  | .idle | .s2 | .s7 | .s9 | .done | .aborted | .unused => .nothing

/-- Whether the position is one of the sender's states S1 to S9. -/
def Pos.isSender : Pos → Bool
  | .s1 | .s2 | .s3 | .s4 | .s5 | .s6 | .s7 | .s8 | .s9 => true
  | .r1 | .r2 | .r3 | .r4 | .r5 | .r6 | .r7 | .r8 | .idle | .done | .aborted | .unused => false

/-- Whether the position is one of the receiver's states R1 to R8. -/
def Pos.isReceiver : Pos → Bool
  | .r1 | .r2 | .r3 | .r4 | .r5 | .r6 | .r7 | .r8 => true
  | .s1 | .s2 | .s3 | .s4 | .s5 | .s6 | .s7 | .s8 | .s9 | .idle | .done | .aborted | .unused => false

/-- R26: a session is active exactly in S1 to S9 and R1 to R8. -/
def Pos.inSession (p : Pos) : Bool := p.isSender || p.isReceiver

/-- R81: 'G' is the receiver's acknowledgement to a sender, and the sender's handshake to a receiver (log 7). -/
def gMeaning (p : Pos) : Instr := if p.isSender then .gAck else .gHandshake

/-- R80: the protocol alphabet, as control decoding reads it in state `p`. -/
def alphabet (p : Pos) : List (Byte × Instr) :=
  [(0x02, .stx), (0x03, .etx), (0x04, .eot), (0x05, .enq), (0x08, .bs), (0x09, .tab), (0x13, .xoff), (0x52, .symR)] ++
  [(0x53, .symS), (0x47, gMeaning p), (0x42, .symB), (0x50, .symP), (0x4E, .symN), (0x58, .symX), (0x1A, .pad)]

/-- R83, R92: control decoding of one byte. -/
def decodeControl (p : Pos) (b : Byte) : Except Reject Instr :=
  match (alphabet p).lookup b with
  | some i => .ok i
  | none => .error (.otherByte b)

/-- R82, R83: positional decoding of a payload byte; PAD is payload as well (log 8). -/
def decodePayload (b : Byte) : Instr := if b = 0x1A then .pad else .payloadByte b

/-- R83: decoding of a byte of the line in state `p`. -/
def decodeLine (p : Pos) (b : Byte) : Except Reject Instr :=
  match p.reading with
  | .control => decodeControl p b
  | .name => .ok (.fnameByte b)
  | .payload => .ok (decodePayload b)
  | .checksum => .ok (.checksumByte b)
  | .nothing => .error .notAwaiting

/-- R45, R270: decoding of a word written to CTRL: bit 0 START, bit 1 ROLE, the rest reserved and ignored. -/
def decodeCtrl (w : Word) : Except Reject Instr :=
  if w.getLsbD 0 then (if w.getLsbD 1 then .ok .startRecv else .ok .startSend) else .error .noStartBit

/-- The decoder: total, by the engine's state. -/
def decode (p : Pos) : Code → Except Reject Instr
  | .line b => decodeLine p b
  | .ctrl w => decodeCtrl w

/-- The encoder, from R80 (symbols), R91 (data bytes) and R270 (CTRL words, reserved bits 0). -/
def encode : Instr → Code
  | .stx => .line 0x02
  | .etx => .line 0x03
  | .eot => .line 0x04
  | .enq => .line 0x05
  | .bs => .line 0x08
  | .tab => .line 0x09
  | .xoff => .line 0x13
  | .symR => .line 0x52
  | .symS => .line 0x53
  | .gHandshake => .line 0x47
  | .gAck => .line 0x47
  | .symB => .line 0x42
  | .symP => .line 0x50
  | .symN => .line 0x4E
  | .symX => .line 0x58
  | .pad => .line 0x1A
  | .fnameByte d => .line d
  | .payloadByte d => .line d
  | .checksumByte d => .line d
  | .startSend => .ctrl 0x00000001
  | .startRecv => .ctrl 0x00000003

/-- In which states the decoder reads an instruction: the table's "decoded_in", and, for a symbol, every other state
of control decoding too, where it is an "other" byte (R92). -/
def Instr.readIn (p : Pos) : Instr → Bool
  | .stx | .etx | .eot | .enq | .bs | .tab | .xoff | .symR | .symS | .symB | .symP | .symN | .symX =>
    p.reading = .control
  | .gHandshake => p.reading = .control && !p.isSender
  | .gAck => p.reading = .control && p.isSender
  | .pad => p.reading = .control || p.reading = .payload
  | .fnameByte _ => p.reading = .name
  | .payloadByte _ => p.reading = .payload
  | .checksumByte _ => p.reading = .checksum
  | .startSend | .startRecv => true

/-- The one state the table's "decoded_in" names first for an instruction received from the line (`none` for the two
commands): where `decodeTableWord` and `State.withFetchWord` take it to arrive. -/
def Instr.home : Instr → Option Pos
  | .stx | .etx => some .r6
  | .eot | .xoff => some .r3
  | .enq => some .r5
  | .bs => some .s3
  | .tab => some .s5
  | .symR => some .r1
  | .symS => some .s1
  | .gHandshake => some .r2
  | .gAck | .symB => some .s8
  | .symP | .symN => some .s6
  | .symX => some .s3
  | .pad | .payloadByte _ => some .r7
  | .fnameByte _ => some .r4
  | .checksumByte _ => some .r8
  | .startSend | .startRecv => none

/-- Log 9: the state a byte is taken to arrive in when only the byte is known: control decoding (R3's, a receiver's)
for the alphabet, R7 for every other value. -/
def tableState (b : Byte) : Pos := if ((alphabet .r3).lookup b).isSome then .r3 else .r7

/-- Log 9: up to 8 bits are one byte of the line, but the value 1, which only a CTRL row's fixed bits match; 9 to 32
bits are a word written to CTRL; a word names no row otherwise. -/
def decodeTableWord (nbits w : Nat) : Option Instr :=
  if nbits ≤ 8 then
    if w = 1 then (decode .idle (.ctrl (BitVec.ofNat 32 w))).toOption
    else (decode (tableState (BitVec.ofNat 8 w)) (.line (BitVec.ofNat 8 w))).toOption
  else if nbits ≤ 32 then (decode .idle (.ctrl (BitVec.ofNat 32 w))).toOption
  else none

end Sys2Proof
end

