-- ==== Sys2Proof/Machine/State.lean ====
section
/-! DEFINITION. The state of one endpoint as plain data: every register of spec/10_state.md, the two buffers, the
host-written configuration, and what the engine meets outside itself (line queue, line condition, host file list, host
answers, the environment's next moves, the ordered outputs). Fault and Refusal, and the state after reset. -/

namespace Sys2Proof.Machine

/-- Why a step stops with a fault. -/
inductive Fault where
  /-- Raised by S4, S7, R4 and R7 when a buffer or name index is outside the range the spec says it never leaves (R29,
  R30, R43, R61), and by S7 when it would assemble with no byte of the file left (R141: "which implies off < L").
  Safe: no run from reset reaches it, and nothing is claimed of what would follow (log 15). -/
  | neverReached
  deriving DecidableEq, Repr

/-- Why the model gives no meaning to a step. -/
inductive Refusal where
  /-- Raised by exec's arm for an instruction that has no meaning yet. Safe. -/
  | notModelled (mnemonic : String)
  /-- Raised by a step in a state record whose `st` holds a code its role does not use (R22: "A model should refuse a
  state record that holds one"). Safe (log 14). -/
  | unusedStateCode
  /-- Raised by START_SEND when the file list is outside the bounds of R274 ("A list outside these bounds is refused:
  the model gives it no meaning"). Safe (log 14). -/
  | fileListNotAdmitted
  /-- Raised when the host replaces the file list while the session is busy (R274: "A change during a session is not
  modelled"). Safe (log 14). -/
  | fileListChangedWhileBusy
  /-- Raised when an ok answer of the file source cannot yield what R275 says it yields, since the file list is not the
  one latched at START (R284: "a wrong-bytes answer is not modelled"). Safe (log 14). -/
  | hostDutyBroken
  deriving DecidableEq, Repr

/-- R22: the names of the codes `st` can hold: IDLE, the codes 1 to 9 (S1 to S9, or R1 to R8), DONE and ABORTED. -/
inductive St where
  | idle
  | n1 | n2 | n3 | n4 | n5 | n6 | n7 | n8 | n9
  | done
  | aborted
  deriving DecidableEq, Repr

/-- R301: the abort causes. The codes 6 to 15 are never written. -/
inductive Cause where
  | none
  | timeout
  | unexpected
  | lineIo
  | fileIo
  | retryLimit
  deriving DecidableEq, Repr

/-- R302: the messages. The codes 5 to 15 are never written. -/
inductive Msg where
  | none
  | receiverNotReady
  | receiverNotResponding
  | senderNotReady
  | senderNotResponding
  deriving DecidableEq, Repr

/-- Control and status state (R22 to R27). -/
structure Ctl where
  /-- R22 `st`. -/
  st : St
  /-- R23 `ph`. -/
  ph : Phase
  /-- R24 `ROLE_ACT`. -/
  roleAct : Role
  /-- R25 `tmr`. -/
  tmr : BitVec 16
  /-- R25 `tlim`. -/
  tlim : BitVec 16
  /-- R26 `busy`. -/
  busy : Bool
  /-- R26 `done`. -/
  done : Bool
  /-- R26 `aborted`. -/
  aborted : Bool
  /-- R26 `cause`. -/
  cause : Cause
  /-- R26 `msg`. -/
  msg : Msg
  /-- R26, R303 `abort_st`. -/
  abortSt : St
  /-- R27 `files_done`. -/
  filesDone : BitVec 16
  deriving DecidableEq, Repr

/-- Sender registers (R28 to R36). -/
structure Snd where
  /-- R28 `k`, the index of the current file. -/
  k : BitVec 16
  /-- R28 `N`, the number of files. -/
  n : BitVec 16
  /-- R29 `i`, the index of the next filename byte. -/
  i : BitVec 4
  /-- R30 `j`, the index of the next payload byte. -/
  j : BitVec 8
  /-- R31 `off`, the acknowledged bytes of the file. -/
  off : BitVec 32
  /-- R31 `L`, the file's length. -/
  len : BitVec 32
  /-- R32 `blk_valid`: a block is held. -/
  blkValid : Bool
  /-- R32 `blen`, the file bytes in the held block. -/
  blen : BitVec 8
  /-- R33 `chk`, the held block's checksum. -/
  chk : Byte
  /-- R34 `retry`. -/
  retry : BitVec 16
  /-- R35 `nblk`, the blocks acknowledged. -/
  nblk : BitVec 32
  /-- R36 `src_open`. -/
  srcOpen : Bool
  deriving DecidableEq, Repr

/-- Receiver registers (R37 to R41). -/
structure Rcv where
  /-- R37 `i`, the index of the next filename byte. -/
  i : BitVec 4
  /-- R38 `j`, the index of the next payload byte. -/
  j : BitVec 8
  /-- R39 `acc`, the running checksum. -/
  acc : Byte
  /-- R40 `snk_open`. -/
  snkOpen : Bool
  /-- R41 `nblk`, the blocks written. -/
  nblk : BitVec 32
  /-- R41 `nbad`, the 'B' replies for the current block. -/
  nbad : BitVec 16
  deriving DecidableEq, Repr

/-- Host-written configuration (R44 to R48). -/
structure Cfg where
  /-- R45 CTRL.ROLE. -/
  role : Role
  /-- R46 CFG_DELAY.BYTE_DELAY_MS. -/
  byteDelay : BitVec 16
  /-- R47 CFG_RETRY.RETRY_LIMIT. -/
  retryLimit : BitVec 16
  /-- R48 REJECT_MASK0 to REJECT_MASK7. -/
  rejectMask : Vector Word 8
  deriving DecidableEq, Repr

/-- R274: one entry of the host's file list. -/
structure HostFile where
  name : List Byte
  data : List Byte
  deriving DecidableEq, Repr

/-- R273, R275, R277: the operations of the host's file source and sink. -/
inductive HostOp where
  | srcOpen (x : BitVec 16)
  | srcRead (x : BitVec 16) (off : BitVec 32) (n : Nat)
  | srcClose (x : BitVec 16)
  | snkOpen (name : Vector Byte 11)
  | snkWrite (blk : Vector Byte 128)
  | snkClose
  deriving DecidableEq, Repr

/-- R16: what a step puts out, in order. -/
inductive Output where
  /-- R15 `tx(b)`: the line has accepted `b`. -/
  | tx (b : Byte)
  /-- R283: the sender has waited this many milliseconds before the next payload byte (log 18). -/
  | delay (ms : BitVec 16)
  /-- R15 `host(op)` and the host's answer. -/
  | host (op : HostOp) (answer : Answer)
  /-- R325: the host has read register word `idx` and got `v`. -/
  | regRead (idx : Nat) (v : Word)
  deriving DecidableEq, Repr

/-- What the line does with a transmitted byte (R66, R186; log 12). -/
inductive Line where
  /-- The line accepts every byte. -/
  | up
  /-- The line accepts `n` more bytes and fails in the transmission after them. -/
  | failsAfter (n : Nat)
  /-- The line accepts `n` more bytes, and then accepts none and does not fail (R66: "If the line never accepts it, the
  engine is stuck"; R284). -/
  | stallsAfter (n : Nat)
  /-- The channel has failed or been torn down (R308). -/
  | failed
  deriving DecidableEq, Repr

/-- One move at the endpoint (log 1): the engine's own turn, or something its environment does. -/
inductive Input where
  /-- The engine's turn. -/
  | turn
  /-- The line delivers a byte to the inbound queue (R67, R73). -/
  | arrive (b : Byte)
  /-- One millisecond passes (R321). -/
  | tick
  /-- The channel fails or is torn down (R308). -/
  | lineFail
  /-- The line will accept `n` more bytes and then fail (R66, R186). -/
  | lineFailAfter (n : Nat)
  /-- The line will accept `n` more bytes and then none (R66, R284). -/
  | lineStallAfter (n : Nat)
  /-- The host has brought the line up (R346). -/
  | lineUp
  /-- The host writes register word `idx` (R325). -/
  | write (idx : Nat) (v : Word)
  /-- The host reads register word `idx` (R325). -/
  | read (idx : Nat)
  /-- The host sets its file list (R274, R346). -/
  | setFiles (files : List HostFile)
  /-- Reset; the line device keeps the queued bytes or discards them (R340). -/
  | reset (keepQueue : Bool)
  deriving DecidableEq, Repr

/-- R14, R66: the register writes that a step has made before a transmission that the line never accepts. They take
effect only if the step ends, in an abort (R310; log 13). -/
structure Pending where
  ctl : Ctl
  snd : Snd
  rcv : Rcv
  name : Vector Byte 11
  blk : Vector Byte 128
  deriving DecidableEq, Repr

/-- The whole endpoint. -/
structure State where
  /-- R22 to R27. -/
  ctl : Ctl
  /-- R28 to R36. -/
  snd : Snd
  /-- R37 to R41. -/
  rcv : Rcv
  /-- R42 `name[0..11)`. -/
  name : Vector Byte 11
  /-- R43 `blk[0..128)`. -/
  blk : Vector Byte 128
  /-- R44 to R48. -/
  cfg : Cfg
  /-- R51, R67: the inbound line queue, head first. -/
  rxq : List Byte
  /-- R66, R308: the line's condition. -/
  line : Line
  /-- R274: the host's file list F. -/
  files : List HostFile
  /-- R16: everything put out so far, oldest first. -/
  trace : List Output
  /-- Model's own (log 2): the host's next answers, head first. -/
  answers : List Answer
  /-- Model's own (log 2): the index of the next free answer. -/
  draws : Nat
  /-- Model's own (log 1): the next moves, head first; none listed means the engine's turn. -/
  inputs : List Input
  /-- Model's own (log 13): a transmission waits for a line that never accepts it (R66), with the writes its step has
  made. -/
  stuck : Option Pending
  deriving DecidableEq, Repr

/-- R52: the control and status registers after reset. `ph`, `tmr` and `tlim` are unspecified there: log 3. -/
def Ctl.reset : Ctl :=
  { st := .idle, ph := .act, roleAct := .sender, tmr := 0, tlim := 0, busy := false, done := false, aborted := false,
    cause := .none, msg := .none, abortSt := .idle, filesDone := 0 }

/-- R52: the sender registers after reset. `i`, `j`, `blen` and `chk` are unspecified there: log 3. -/
def Snd.reset : Snd :=
  { k := 0, n := 0, i := 0, j := 0, off := 0, len := 0, blkValid := false, blen := 0, chk := 0, retry := 0, nblk := 0,
    srcOpen := false }

/-- R52: the receiver registers after reset. `i`, `j` and `acc` are unspecified there: log 3. -/
def Rcv.reset : Rcv := { i := 0, j := 0, acc := 0, snkOpen := false, nblk := 0, nbad := 0 }

/-- R45 to R48, R52: the configuration after reset. -/
def Cfg.reset : Cfg := { role := .sender, byteDelay := 0, retryLimit := 0, rejectMask := Vector.replicate 8 0 }

/-- R52, R341: the endpoint right after reset. The buffers are unspecified there (log 3); the fields outside the
engine are log 4's. -/
def State.reset : State :=
  { ctl := Ctl.reset, snd := Snd.reset, rcv := Rcv.reset, name := Vector.replicate 11 0, blk := Vector.replicate 128 0,
    cfg := Cfg.reset, rxq := [], line := .up, files := [], trace := [], answers := [], draws := 0, inputs := [],
    stuck := none }

end Sys2Proof.Machine
end

