-- ==== Sys2Proof/Machine/Operands.lean ====
section
/-! DEFINITION. The operand forms: the position `st` and the role give, the filename byte the sender sends, the
validity test of the receiver, the checksum, the padded block, the admission of a file list, and the views of the
output trace (the outbound stream and the sink's contents). -/

namespace Sys2Proof.Machine

/-- R22: what the code in `st` means in the role of the session. -/
def State.pos (s : State) : Pos :=
  match s.ctl.st, s.ctl.roleAct with
  | .idle, _ => .idle
  | .n1, .sender => .s1
  | .n2, .sender => .s2
  | .n3, .sender => .s3
  | .n4, .sender => .s4
  | .n5, .sender => .s5
  | .n6, .sender => .s6
  | .n7, .sender => .s7
  | .n8, .sender => .s8
  | .n9, .sender => .s9
  | .n1, .receiver => .r1
  | .n2, .receiver => .r2
  | .n3, .receiver => .r3
  | .n4, .receiver => .r4
  | .n5, .receiver => .r5
  | .n6, .receiver => .r6
  | .n7, .receiver => .r7
  | .n8, .receiver => .r8
  | .n9, .receiver => .unused
  | .done, _ => .done
  | .aborted, _ => .aborted

/-- R23: the engine is in a WAIT phase, and so awaits an event. R1 to R8 are WAIT phases whatever `ph` holds; S2, S7
and S9 have none (log 23). An engine stuck in a transmission awaits nothing (R66). -/
def State.listening (s : State) : Bool :=
  s.stuck.isNone &&
    match s.pos with
    | .r1 | .r2 | .r3 | .r4 | .r5 | .r6 | .r7 | .r8 => true
    | .s1 | .s3 | .s4 | .s5 | .s6 | .s8 => s.ctl.ph = .wait
    | .s2 | .s7 | .s9 | .idle | .done | .aborted | .unused => false

/-- R176: `F[k].name[i]`, if there is one. -/
def State.nameByte? (s : State) : Option Byte :=
  match s.files[s.snd.k.toNat]? with
  | some f => f.name[s.snd.i.toNat]?
  | none => none

/-- R48: byte value `b` is in the set of REJECT_MASK0 to REJECT_MASK7. -/
def rejects (mask : Vector Word 8) (b : Byte) : Bool :=
  match mask[b.toNat / 32]? with
  | some w => w.getLsbD (b.toNat % 32)
  | none => false

/-- R152: a valid filename byte: printable ASCII and not rejected by the host's file system. -/
def validNameByte (mask : Vector Word 8) (b : Byte) : Bool :=
  decide (0x20 ≤ b.toNat) && decide (b.toNat ≤ 0x7E) && !rejects mask b

/-- R120, R125: XOR of a sequence of bytes, folded from 0. -/
def xorAll (l : List Byte) : Byte := l.foldl (· ^^^ ·) 0

/-- R120: the checksum of a block. -/
def xorChecksum (blk : Vector Byte 128) : Byte := xorAll blk.toList

/-- R9, R142: the padding byte. -/
def padByte : Byte := 0x1A

/-- R141: a block that begins with the given bytes and is PAD after them. -/
def padBlock (bytes : List Byte) : Vector Byte 128 :=
  ⟨((bytes ++ List.replicate 128 padByte).take 128).toArray, by simp⟩

/-- R141: how many bytes of the file the next block takes. -/
def blockBytes (s : Snd) : Nat := min 128 (s.len.toNat - s.off.toNat)

/-- R275: the bytes `data[off..off+n)`. -/
def fileBytes (data : List Byte) (off n : Nat) : List Byte := (data.drop off).take n

/-- R146: EOF in S6. -/
def atEof (s : Snd) : Bool := !s.blkValid && s.off == s.len

/-- R274: one file is admitted. -/
def HostFile.admitted (f : HostFile) : Bool := decide (f.name.length = 11) && decide (f.data.length < 2 ^ 32)

/-- R274: the host's file list is admitted. -/
def filesAdmitted (files : List HostFile) : Bool := decide (files.length ≤ 65535) && files.all HostFile.admitted

/-- R34, R41: an increment of a 16-bit counter that saturates at 0xFFFF. -/
def satInc (v : BitVec 16) : BitVec 16 := if v = 0xFFFF then v else v + 1

/-- The byte an output put on the line, if it did. -/
def Output.txByte? : Output → Option Byte
  | .tx b => some b
  | .delay _ | .host _ _ | .regRead _ _ => none

/-- R16, R278: the outbound byte stream of a trace. -/
def txBytes (trace : List Output) : List Byte := trace.filterMap Output.txByte?

/-- R277: one file of the sink: the wire name it was opened with and the bytes written since. -/
structure SinkFile where
  name : Vector Byte 11
  content : List Byte
  deriving DecidableEq, Repr

/-- R277: what one output does to the sink's files, the last opened first. -/
def sinkAfter (files : List SinkFile) : Output → List SinkFile
  | .host (.snkOpen name) .ok => { name := name, content := [] } :: files
  | .host (.snkWrite blk) .ok =>
    match files with
    | [] => []
    | f :: rest => { f with content := f.content ++ blk.toList } :: rest
  | .host _ _ | .tx _ | .delay _ | .regRead _ _ => files

/-- R277: "The sink's content at any time is the concatenation of the blocks written since its open." The files
opened so far, the last first. -/
def sinkFiles (trace : List Output) : List SinkFile := trace.foldl sinkAfter []

end Sys2Proof.Machine
end

