-- ==== Sys2Proof/Machine/Flags.lean ====
section
/-! DEFINITION. The codes of the status registers (R22, R301, R302), the message of an abort, and the register words
the host reads (R44, R49, R50). -/

namespace Sys2Proof.Machine

/-- R22: the 4-bit code of a state name. -/
def St.code : St → BitVec 4
  | .idle => 0x0
  | .n1 => 0x1
  | .n2 => 0x2
  | .n3 => 0x3
  | .n4 => 0x4
  | .n5 => 0x5
  | .n6 => 0x6
  | .n7 => 0x7
  | .n8 => 0x8
  | .n9 => 0x9
  | .done => 0xE
  | .aborted => 0xF

/-- R301: the 4-bit code of a cause. -/
def Cause.code : Cause → BitVec 4
  | .none => 0
  | .timeout => 1
  | .unexpected => 2
  | .lineIo => 3
  | .fileIo => 4
  | .retryLimit => 5

/-- R302: the 4-bit code of a message. -/
def Msg.code : Msg → BitVec 4
  | .none => 0
  | .receiverNotReady => 1
  | .receiverNotResponding => 2
  | .senderNotReady => 3
  | .senderNotResponding => 4

/-- R302: the message of an abort, from the role and the state it is raised in. -/
def msgOf : Role → St → Msg
  | .sender, st => if st = .n1 then .receiverNotReady else .receiverNotResponding
  | .receiver, st => if st = .n1 then .senderNotReady else .senderNotResponding

/-- R24: the role as a bit. -/
def roleBit : Role → BitVec 1
  | .sender => 0
  | .receiver => 1

/-- R23: the phase as a bit. -/
def phaseBit : Phase → BitVec 1
  | .act => 0
  | .wait => 1

/-- R49: PHASE as the host reads it: 0 in IDLE, DONE and ABORTED. -/
def phaseRead (c : Ctl) : BitVec 1 :=
  match c.st with
  | .idle | .done | .aborted => 0
  | .n1 | .n2 | .n3 | .n4 | .n5 | .n6 | .n7 | .n8 | .n9 => phaseBit c.ph

/-- R44, R49: the STATUS word, most significant field first; reserved bits read 0 (log 26). -/
def statusWord (c : Ctl) : Word :=
  (0 : BitVec 8) ++ c.abortSt.code ++ c.msg.code ++ c.cause.code ++ (0 : BitVec 3) ++ phaseRead c ++ c.st.code ++
    roleBit c.roleAct ++ BitVec.ofBool c.aborted ++ BitVec.ofBool c.done ++ BitVec.ofBool c.busy

/-- R44, R50: BLK_IDX, `nblk` of the active role. -/
def blkIdxWord (s : State) : Word :=
  match s.ctl.roleAct with
  | .sender => s.snd.nblk
  | .receiver => s.rcv.nblk

/-- R44, R50: RETRY_CNT, `retry` or `nbad`. -/
def retryWord (s : State) : Word :=
  match s.ctl.roleAct with
  | .sender => s.snd.retry.zeroExtend 32
  | .receiver => s.rcv.nbad.zeroExtend 32

/-- R44, R50: OFFSET, `off` in the sender role and 0 in the receiver role. -/
def offsetWord (s : State) : Word :=
  match s.ctl.roleAct with
  | .sender => s.snd.off
  | .receiver => 0

/-- R44: the word at a register index; an index not listed reads 0. START always reads 0 (R45). -/
def regRead (s : State) (idx : Nat) : Word :=
  if idx = 0x00 then (0 : BitVec 30) ++ roleBit s.cfg.role ++ (0 : BitVec 1)
  else if idx = 0x01 then s.cfg.byteDelay.zeroExtend 32
  else if idx = 0x02 then s.cfg.retryLimit.zeroExtend 32
  else if 0x03 ≤ idx ∧ idx ≤ 0x0A then (s.cfg.rejectMask[idx - 3]?).getD 0
  else if idx = 0x10 then statusWord s.ctl
  else if idx = 0x11 then s.ctl.filesDone.zeroExtend 32
  else if idx = 0x12 then blkIdxWord s
  else if idx = 0x13 then retryWord s
  else if idx = 0x14 then offsetWord s
  else 0

end Sys2Proof.Machine
end

