-- ==== Sys2Proof/Machine/Ops.lean ====
section
/-! DEFINITION. The named operations every rule is written with (R15): the end of a step, outputs, host operations,
the timer, moves of `st` and `ph`, the abort (the machine's one exception entry, R310), clean completion (R314) and
the transmission of a byte (R66). -/

namespace Sys2Proof.Machine

/-- How far a step has come. -/
inductive Flow where
  /-- The step goes on from this state; at its end, this is the next state. -/
  | go (s : State)
  /-- The step has ended: an abort (R305: "every raise ends the step") or a completion. -/
  | ended (s : State)
  /-- The step is stuck in a transmission (R66). -/
  | stuck (s : State)
  | fault (f : Fault)
  | refused (r : Refusal)

/-- The next part of a step, run only where the step goes on. -/
def Flow.andThen (m : Flow) (next : State → Flow) : Flow :=
  match m with
  | .go s => next s
  | .ended s => .ended s
  | .stuck s => .stuck s
  | .fault f => .fault f
  | .refused r => .refused r

/-- The registers that a step writes, as it has left them. -/
def State.registers (s : State) : Pending := { ctl := s.ctl, snd := s.snd, rcv := s.rcv, name := s.name, blk := s.blk }

/-- R310, log 13: the writes that a stuck step has made. -/
def State.withPending (s : State) (p : Pending) : State :=
  { s with ctl := p.ctl, snd := p.snd, rcv := p.rcv, name := p.name, blk := p.blk }

/-- R14, R66, log 13: a stuck step has not completed, so of its effects only the outputs, the bytes the line has
accepted and the host answers it has used stand; its register writes, which take effect at its end, are pending. DESIGN CHOICE, log 32: the byte that the
step consumed counts as removed from the queue, as it is in `before`. -/
def stuckState (before during : State) : State :=
  { before with
    trace := during.trace, line := during.line, answers := during.answers, draws := during.draws
    stuck := some during.registers }

/-- The outcome of a step that began in `before`. -/
def Flow.outcome (before : State) : Flow → Host.Outcome State Fault Refusal
  | .go s => .next s
  | .ended s => .next s
  | .stuck s => .next (stuckState before s)
  | .fault f => .fault f
  | .refused r => .refused r

/-- R16: put out one output after those before it. -/
def State.emit (s : State) (o : Output) : State := { s with trace := s.trace ++ [o] }

/-- R14: `st <- st; ph <- ACT`. DESIGN CHOICE, log 33: `tmr` and `tlim`, meaningful in a WAIT phase only (R25), keep their
values. -/
def State.goTo (s : State) (st : St) : State := { s with ctl := { s.ctl with st := st, ph := .act } }

/-- R320: `timer_start(limit); ph <- WAIT`, the end of a sender's ACT phase that has an await. -/
def State.await (s : State) (limit : BitVec 16) : State :=
  { s with ctl := { s.ctl with ph := .wait, tmr := 0, tlim := limit } }

/-- R9: `T_HS`. -/
def handshakeLimit : BitVec 16 := 5000

/-- R9: `T_BYTE`. -/
def byteLimit : BitVec 16 := 2000

/-- R221: `T(Rn)`. -/
def receiverLimit (st : St) : BitVec 16 := if st = .n1 then handshakeLimit else byteLimit

/-- R221: `enter(Rn)`. -/
def State.enter (s : State) (st : St) : State :=
  { s with ctl := { s.ctl with st := st, ph := .wait, tmr := 0, tlim := receiverLimit st } }

/-- R321: one millisecond passes; it counts in a WAIT phase only. -/
def State.tick (s : State) : State :=
  if s.listening then
    { s with ctl := { s.ctl with tmr := BitVec.ofNat 16 (min (s.ctl.tmr.toNat + 1) s.ctl.tlim.toNat) } }
  else s

/-- R273, log 2: the host's answer to the next operation, and the state with that answer used. -/
def State.takeAnswer (s : State) : Answer × State :=
  match s.answers with
  | a :: rest => (a, { s with answers := rest })
  | [] => (Config.hostAnswer s.draws, { s with draws := s.draws + 1 })

/-- R15: `host(op) -> ok | fail`, recorded among the outputs. -/
def State.hostCall (s : State) (op : HostOp) : Answer × State :=
  ((s.takeAnswer).1, (s.takeAnswer).2.emit (.host op (s.takeAnswer).1))

/-- R310: the release of an open handle in an abort; the host's answer is ignored. -/
def State.releaseHandles (s : State) : State :=
  match s.ctl.roleAct with
  | .sender =>
    if s.snd.srcOpen then
      { (s.hostCall (.srcClose s.snd.k)).2 with snd := { s.snd with srcOpen := false } }
    else s
  | .receiver =>
    if s.rcv.snkOpen then
      { (s.hostCall .snkClose).2 with rcv := { s.rcv with snkOpen := false } }
    else s

/-- R310: the register writes of an abort. DESIGN CHOICE, log 30: `ph`, which R23 leaves unspecified in ABORTED, keeps its
value. -/
def Ctl.abort (c : Ctl) (cause : Cause) : Ctl :=
  { c with abortSt := c.st, cause := cause, msg := msgOf c.roleAct c.st, aborted := true, busy := false, st := .aborted }

/-- R310: `raise Abort(cause)`, the engine's one exception entry. -/
def State.abort (s : State) (cause : Cause) : State :=
  { s.releaseHandles with ctl := s.ctl.abort cause, stuck := none }

/-- R314: `finish()`. DESIGN CHOICE, log 30: `ph`, which R23 leaves unspecified in DONE, keeps its value. -/
def State.finish (s : State) : State :=
  { s with ctl := { s.ctl with done := true, busy := false, st := .done } }

/-- R66, R186: `tx(b)`. DESIGN CHOICE, log 29: within a step, LINEFAIL comes only here, before the line has accepted the
byte; a failure after the step's last byte, or between two host operations, is seen by the next step. -/
def State.tx (s : State) (b : Byte) : Flow :=
  match s.line with
  | .up => .go (s.emit (.tx b))
  | .failsAfter (n + 1) => .go { s.emit (.tx b) with line := .failsAfter n }
  | .failsAfter 0 => .ended ({ s with line := .failed }.abort .lineIo)
  | .stallsAfter (n + 1) => .go { s.emit (.tx b) with line := .stallsAfter n }
  | .stallsAfter 0 => .stuck s
  | .failed => .ended (s.abort .lineIo)

/-- R67: a byte that no WAIT step consumes stays queued, at the head of the queue (log 11). -/
def State.requeue (s : State) (b : Byte) : State := { s with rxq := b :: s.rxq }

/-- R52, R340: reset puts every register into its reset value and touches nothing of the line, the host or the
outputs; the line device keeps the queued bytes or discards them (log 19). -/
def State.engineReset (s : State) (keepQueue : Bool) : State :=
  { s with
    ctl := Ctl.reset, snd := Snd.reset, rcv := Rcv.reset, name := State.reset.name, blk := State.reset.blk,
    cfg := Cfg.reset, stuck := none, rxq := if keepQueue then s.rxq else [] }

end Sys2Proof.Machine
end

