-- ==== Sys2Proof/Machine/Sender.lean ====
section
/-! DEFINITION. The sender FSM (spec/42_sender_fsm.md): the ACT phases of S1 to S9, the file sequencer they share, and
the response of each WAIT phase to a received byte. -/

namespace Sys2Proof.Machine

/-- R173, ok branch: file `x` is open; its length is latched and the context reset. DESIGN CHOICE, log 31: `blen` and
`chk`, which R32 and R33 give no value without a held block, keep theirs. -/
def State.openedFile (s : State) (f : HostFile) : State :=
  { s with
    snd := { s.snd with
      srcOpen := true, len := BitVec.ofNat 32 f.data.length, off := 0, blkValid := false, retry := 0, nblk := 0 } }

/-- R173: `next_file(x)`. -/
def State.nextFile (s : State) (x : BitVec 16) : Flow :=
  let s1 : State := { s with snd := { s.snd with k := x } }
  if x < s1.snd.n then
    match s1.hostCall (.srcOpen x) with
    | (.fail, s2) => .ended (s2.abort .fileIo)
    | (.ok, s2) =>
      match s2.files[x.toNat]? with
      | none => .refused .hostDutyBroken
      | some f => .go ((s2.openedFile f).goTo .n3)
  else
    (s1.tx 0x13).andThen fun s2 => .ended s2.finish

/-- R170: S1, ACT phase. -/
def actS1 (s : State) : Flow := (s.tx 0x52).andThen fun s1 => .go (s1.await handshakeLimit)

/-- R172: S2, ACT phase. -/
def actS2 (s : State) : Flow := (s.tx 0x47).andThen fun s1 => s1.nextFile 0

/-- R174: S3, ACT phase. -/
def actS3 (s : State) : Flow :=
  (s.tx 0x04).andThen fun s1 => .go ({ s1 with snd := { s1.snd with i := 0 } }.await byteLimit)

/-- R176: S4, ACT phase. -/
def actS4 (s : State) : Flow :=
  match s.nameByte? with
  | none => .fault .neverReached
  | some b => (s.tx b).andThen fun s1 => .go (s1.await byteLimit)

/-- R178: S5, ACT phase. -/
def actS5 (s : State) : Flow := (s.tx 0x05).andThen fun s1 => .go (s1.await byteLimit)

/-- R180: S6, ACT phase. -/
def actS6 (s : State) : Flow :=
  if atEof s.snd then (s.tx 0x03).andThen fun s1 => .go (s1.goTo .n9)
  else (s.tx 0x02).andThen fun s1 => .go (s1.await byteLimit)

/-- R141, ok branch: the block is filled with the file's bytes and PAD. -/
def State.assembled (s : State) (bytes : List Byte) : State :=
  { s with
    blk := padBlock bytes
    snd := { s.snd with
      blen := BitVec.ofNat 8 bytes.length, blkValid := true, chk := xorChecksum (padBlock bytes) } }

/-- R141: `assemble()`. -/
def State.assemble (s : State) : Flow :=
  if s.snd.off < s.snd.len then
    match s.hostCall (.srcRead s.snd.k s.snd.off (blockBytes s.snd)) with
    | (.fail, s1) => .ended (s1.abort .fileIo)
    | (.ok, s1) =>
      match s1.files[s1.snd.k.toNat]? with
      | none => .refused .hostDutyBroken
      | some f =>
        if (fileBytes f.data s1.snd.off.toNat (blockBytes s1.snd)).length = blockBytes s1.snd then
          .go (s1.assembled (fileBytes f.data s1.snd.off.toNat (blockBytes s1.snd)))
        else .refused .hostDutyBroken
  else .fault .neverReached

/-- R283: the delay before every payload byte but the first of a pass. -/
def State.byteDelay (s : State) : State := if s.snd.j = 0 then s else s.emit (.delay s.cfg.byteDelay)

/-- R182: the moves after a payload byte: `if j = 127: st <- S8; ph <- ACT`, then `j <- j + 1`. -/
def State.streamed (s : State) : State :=
  let s1 := if s.snd.j = 127 then s.goTo .n8 else s
  { s1 with snd := { s1.snd with j := s1.snd.j + 1 } }

/-- R182: S7, one payload byte of the held block. -/
def State.stream (s : State) : Flow :=
  match s.blk[s.snd.j.toNat]? with
  | none => .fault .neverReached
  | some b => (s.byteDelay.tx b).andThen fun s1 => .go s1.streamed

/-- R182: S7, ACT phase. -/
def actS7 (s : State) : Flow := if s.snd.blkValid then s.stream else s.assemble

/-- R183: S8, ACT phase. -/
def actS8 (s : State) : Flow := (s.tx s.snd.chk).andThen fun s1 => .go (s1.await byteLimit)

/-- R185: S9, ACT phase. -/
def actS9 (s : State) : Flow :=
  let s1 := (s.hostCall (.srcClose s.snd.k)).2
  let s2 : State :=
    { s1 with
      snd := { s1.snd with srcOpen := false }, ctl := { s1.ctl with filesDone := s1.ctl.filesDone + 1 } }
  s2.nextFile (s2.snd.k + 1)

/-- The ACT step of a sender state (R187); the other positions have none. -/
def actFlow (s : State) : Flow :=
  match s.pos with
  | .s1 => actS1 s
  | .s2 => actS2 s
  | .s3 => actS3 s
  | .s4 => actS4 s
  | .s5 => actS5 s
  | .s6 => actS6 s
  | .s7 => actS7 s
  | .s8 => actS8 s
  | .s9 => actS9 s
  | .r1 | .r2 | .r3 | .r4 | .r5 | .r6 | .r7 | .r8 | .idle | .done | .aborted | .unused => .go s

/-- R171: S1, WAIT phase. -/
def waitS1 (b : Byte) (s : State) : Flow := if b = 0x53 then .go (s.goTo .n2) else .go (s.goTo .n1)

/-- R175: S3, WAIT phase. -/
def waitS3 (b : Byte) (s : State) : Flow := if b = 0x08 then .go (s.goTo .n4) else .ended (s.abort .unexpected)

/-- R177: the moves after a good echo; the test reads the old `i`. -/
def State.echoed (s : State) : State :=
  { s with snd := { s.snd with i := s.snd.i + 1 } }.goTo (if s.snd.i = 10 then .n5 else .n4)

/-- R177: S4, WAIT phase. -/
def waitS4 (b : Byte) (s : State) : Flow :=
  match s.nameByte? with
  | none => .fault .neverReached
  | some e => if b = e then .go s.echoed else .go (s.goTo .n3)

/-- R179: S5, WAIT phase. -/
def waitS5 (b : Byte) (s : State) : Flow := if b = 0x09 then .go (s.goTo .n6) else .go (s.goTo .n3)

/-- R181: S6, WAIT phase. -/
def waitS6 (b : Byte) (s : State) : Flow :=
  if b = 0x50 then .go ({ s with snd := { s.snd with j := 0 } }.goTo .n7) else .ended (s.abort .unexpected)

/-- R184: 'G' in S8: the block is acknowledged. DESIGN CHOICE, log 31: `blen` and `chk`, which R32 and R33 give no value
without a held block, keep theirs. -/
def State.acknowledged (s : State) : State :=
  { s with
    snd := { s.snd with
      off := s.snd.off + s.snd.blen.zeroExtend 32, blkValid := false, nblk := s.snd.nblk + 1, retry := 0 } }.goTo .n6

/-- R184, R276: 'B' in S8: the held block is sent again, or the retry bound is exceeded. -/
def State.negated (s : State) : Flow :=
  if s.cfg.retryLimit ≠ 0 ∧ s.snd.retry = s.cfg.retryLimit then .ended (s.abort .retryLimit)
  else .go ({ s with snd := { s.snd with retry := satInc s.snd.retry } }.goTo .n6)

/-- R184: S8, WAIT phase. -/
def waitS8 (b : Byte) (s : State) : Flow :=
  if b = 0x47 then .go s.acknowledged
  else if b = 0x42 then s.negated
  else .ended (s.abort .unexpected)

end Sys2Proof.Machine
end

