-- ==== Sys2Proof/Machine/Receiver.lean ====
section
/-! DEFINITION. The receiver FSM (spec/43_receiver_fsm.md): the response of each state R1 to R8 to a received byte;
and `receive`, the response of the endpoint to a byte in whatever state it is (R92). -/

namespace Sys2Proof.Machine

/-- The receiver's replies: `tx(b); enter(Rn)`. -/
def State.reply (s : State) (b : Byte) (st : St) : Flow := (s.tx b).andThen fun s1 => .go (s1.enter st)

/-- R222: R1. -/
def waitR1 (b : Byte) (s : State) : Flow := if b = 0x52 then s.reply 0x53 .n2 else .go (s.enter .n1)

/-- R223: R2. -/
def waitR2 (b : Byte) (s : State) : Flow := if b = 0x47 then .go (s.enter .n3) else .ended (s.abort .unexpected)

/-- R224: R3. -/
def waitR3 (b : Byte) (s : State) : Flow :=
  if b = 0x04 then (s.tx 0x08).andThen fun s1 => .go ({ s1 with rcv := { s1.rcv with i := 0 } }.enter .n4)
  else if b = 0x13 then .ended s.finish
  else s.reply 0x58 .n3

/-- R153, R225: `name[i] <- b`. -/
def State.storeName (s : State) (b : Byte) : State := { s with name := s.name.setIfInBounds s.rcv.i.toNat b }

/-- R225: the moves after an echo; the test reads the old `i`. -/
def State.named (s : State) : State :=
  { s with rcv := { s.rcv with i := s.rcv.i + 1 } }.enter (if s.rcv.i = 10 then .n5 else .n4)

/-- R225: R4. -/
def waitR4 (b : Byte) (s : State) : Flow :=
  if validNameByte s.cfg.rejectMask b then
    if s.rcv.i < 11 then ((s.storeName b).tx b).andThen fun s1 => .go s1.named
    else .fault .neverReached
  else s.reply 0x58 .n3

/-- R226: ENQ in R5: the sink opens the file, or the name is rejected. -/
def State.openSink (s : State) : Flow :=
  match s.hostCall (.snkOpen s.name) with
  | (.ok, s1) => ({ s1 with rcv := { s1.rcv with snkOpen := true, nblk := 0, nbad := 0 } }).reply 0x09 .n6
  | (.fail, s1) => s1.reply 0x58 .n3

/-- R226: R5. -/
def waitR5 (b : Byte) (s : State) : Flow := if b = 0x05 then s.openSink else s.reply 0x58 .n3

/-- R227: ETX in R6: the sink closes the file as it is. -/
def State.closeSink (s : State) : Flow :=
  match s.hostCall .snkClose with
  | (.fail, s1) => .ended (s1.abort .fileIo)
  | (.ok, s1) =>
    .go ({ s1 with
      rcv := { s1.rcv with snkOpen := false }, ctl := { s1.ctl with filesDone := s1.ctl.filesDone + 1 } }.enter .n3)

/-- R227: R6. -/
def waitR6 (b : Byte) (s : State) : Flow :=
  if b = 0x02 then
    (s.tx 0x50).andThen fun s1 => .go ({ s1 with rcv := { s1.rcv with j := 0, acc := 0 } }.enter .n7)
  else if b = 0x03 then s.closeSink
  else s.reply 0x4E .n6

/-- R122, R148: the byte is stored and added to the running checksum. -/
def State.storePayload (s : State) (b : Byte) : State :=
  { s with
    blk := s.blk.setIfInBounds s.rcv.j.toNat b
    rcv := { s.rcv with acc := s.rcv.acc ^^^ b, j := s.rcv.j + 1 } }

/-- R228: R7; the test reads the old `j`. -/
def waitR7 (b : Byte) (s : State) : Flow :=
  if s.rcv.j < 128 then .go ((s.storePayload b).enter (if s.rcv.j = 127 then .n8 else .n7))
  else .fault .neverReached

/-- R229: the checksum matches: the block is written, then acknowledged. -/
def State.writeBlock (s : State) : Flow :=
  match s.hostCall (.snkWrite s.blk) with
  | (.fail, s1) => .ended (s1.abort .fileIo)
  | (.ok, s1) => ({ s1 with rcv := { s1.rcv with nblk := s1.rcv.nblk + 1, nbad := 0 } }).reply 0x47 .n6

/-- R123, R229: R8. -/
def waitR8 (c : Byte) (s : State) : Flow :=
  if c = s.rcv.acc then s.writeBlock
  else ({ s with rcv := { s.rcv with nbad := satInc s.rcv.nbad } }).reply 0x42 .n6

/-- R92: the response of the state to a received byte, as far as a step. -/
def respond (b : Byte) (s : State) : Flow :=
  match s.pos with
  | .s1 => waitS1 b s
  | .s3 => waitS3 b s
  | .s4 => waitS4 b s
  | .s5 => waitS5 b s
  | .s6 => waitS6 b s
  | .s8 => waitS8 b s
  | .r1 => waitR1 b s
  | .r2 => waitR2 b s
  | .r3 => waitR3 b s
  | .r4 => waitR4 b s
  | .r5 => waitR5 b s
  | .r6 => waitR6 b s
  | .r7 => waitR7 b s
  | .r8 => waitR8 b s
  | .s2 | .s7 | .s9 | .idle | .done | .aborted | .unused => .go (s.requeue b)

/-- R83, R92: the endpoint's response to byte `b`, which the step has taken from the queue. What a byte means depends
only on the state it is received in. Where no byte is awaited it is not consumed (R67; log 11). -/
def receive (b : Byte) (s : State) : Host.Outcome State Fault Refusal :=
  if s.listening then (respond b s).outcome s else .next (s.requeue b)

end Sys2Proof.Machine
end

