-- ==== Sys2Proof/Machine/Control.lean ====
section
/-! DEFINITION. The meanings of the control symbols (family ctrl8 of the opcode table). Each is the endpoint's
response, in the state it is in, to the symbol's byte (R80, R92): the effect in the state the table names, and the
"other byte" response elsewhere. -/

namespace Sys2Proof.Machine

/-- STX: R227 in R6 (send 'P', R7); R92 elsewhere. -/
def execStx (s : State) : Host.Outcome State Fault Refusal := receive 0x02 s

/-- ETX: R227 in R6 (close the file, R3); R92 elsewhere. -/
def execEtx (s : State) : Host.Outcome State Fault Refusal := receive 0x03 s

/-- EOT: R224 in R3 (send BS, R4); R92 elsewhere. -/
def execEot (s : State) : Host.Outcome State Fault Refusal := receive 0x04 s

/-- ENQ: R226 in R5 (open the file, send TAB, R6); R92 elsewhere. -/
def execEnq (s : State) : Host.Outcome State Fault Refusal := receive 0x05 s

/-- BS: R175 in S3 (S4); R92 elsewhere. -/
def execBs (s : State) : Host.Outcome State Fault Refusal := receive 0x08 s

/-- TAB: R179 in S5 (S6); R92 elsewhere. -/
def execTab (s : State) : Host.Outcome State Fault Refusal := receive 0x09 s

/-- XOFF: R224 in R3 (clean end of the session); R92 elsewhere. -/
def execXoff (s : State) : Host.Outcome State Fault Refusal := receive 0x13 s

/-- 'R': R222 in R1 (send 'S', R2); R92 elsewhere. -/
def execSymR (s : State) : Host.Outcome State Fault Refusal := receive 0x52 s

/-- 'S': R171 in S1 (S2); R92 elsewhere. -/
def execSymS (s : State) : Host.Outcome State Fault Refusal := receive 0x53 s

/-- 'G' of the handshake: R223 in R2 (R3); R81, R92 elsewhere. -/
def execGHandshake (s : State) : Host.Outcome State Fault Refusal := receive 0x47 s

/-- 'G' as block acknowledgement: R184 in S8 (advance, S6); R81, R92 elsewhere. -/
def execGAck (s : State) : Host.Outcome State Fault Refusal := receive 0x47 s

/-- 'B': R184 in S8 (resend the held block, S6); R92 elsewhere. -/
def execSymB (s : State) : Host.Outcome State Fault Refusal := receive 0x42 s

/-- 'P': R181 in S6 (S7); R92 elsewhere. -/
def execSymP (s : State) : Host.Outcome State Fault Refusal := receive 0x50 s

/-- 'N': R175, R181, R184 in S3, S6, S8 (abort UNEXPECTED); R92 elsewhere. -/
def execSymN (s : State) : Host.Outcome State Fault Refusal := receive 0x4E s

/-- 'X': R175 in S3 (abort UNEXPECTED), R177 in S4, R179 in S5 (restart at S3); R92 elsewhere. -/
def execSymX (s : State) : Host.Outcome State Fault Refusal := receive 0x58 s

end Sys2Proof.Machine
end

