-- ==== Sys2Proof/Machine/Data.lean ====
section
/-! DEFINITION. The meanings of the data bytes (family data8 of the opcode table): their value is the operand, and
the state they arrive in says what it is used for (R83). -/

namespace Sys2Proof.Machine

/-- PAD: R82, R228: payload in R7; an "other" byte in a control state. -/
def execPad (s : State) : Host.Outcome State Fault Refusal := receive 0x1A s

/-- FNAME_BYTE: R225 in R4 (validity, store, echo); R177 in S4 (echo compare). -/
def execFnameByte (d : Byte) (s : State) : Host.Outcome State Fault Refusal := receive d s

/-- PAYLOAD_BYTE: R228 in R7. -/
def execPayloadByte (d : Byte) (s : State) : Host.Outcome State Fault Refusal := receive d s

/-- CHECKSUM_BYTE: R229 in R8. -/
def execChecksumByte (d : Byte) (s : State) : Host.Outcome State Fault Refusal := receive d s

end Sys2Proof.Machine
end

