-- ==== Sys2Proof/Machine/Session.lean ====
section
/-! DEFINITION. The START commands (family ctrl_reg of the opcode table, R270) and the host's other register writes
(R45 to R50). -/

namespace Sys2Proof.Machine

/-- R270: the writes of START that both roles share. -/
def State.startSession (s : State) (role : Role) : State :=
  { s with
    cfg := { s.cfg with role := role }
    ctl := { s.ctl with
      roleAct := role, busy := true, done := false, aborted := false, cause := .none, msg := .none, abortSt := .idle,
      filesDone := 0 } }

/-- R270: the sender's transfer context at START; then S1, ACT phase. DESIGN CHOICE, log 31: `blen` and `chk`, which R32
and R33 give no value without a held block, keep theirs. -/
def State.startSender (s : State) : State :=
  { s with
    snd := { s.snd with
      n := BitVec.ofNat 16 s.files.length, k := 0, srcOpen := false, blkValid := false, off := 0, len := 0, retry := 0,
      nblk := 0 } }.goTo .n1

/-- R270: the receiver's transfer context at START; then `enter(R1)`. -/
def State.startReceiver (s : State) : State :=
  { s with rcv := { s.rcv with snkOpen := false, nblk := 0, nbad := 0 } }.enter .n1

/-- START_SEND (R270; ignored while busy, R328; the list admitted as R274 says). -/
def execStartSend (s : State) : Host.Outcome State Fault Refusal :=
  if s.ctl.busy then .next s
  else if filesAdmitted s.files then .next (s.startSession .sender).startSender
  else .refused .fileListNotAdmitted

/-- START_RECV (R270; ignored while busy, R328). -/
def execStartRecv (s : State) : Host.Outcome State Fault Refusal :=
  if s.ctl.busy then .next s else .next (s.startSession .receiver).startReceiver

/-- R44 to R50: a register write that starts no session. Configuration is written while not busy only; read-only and
unlisted words ignore writes; reserved bits are dropped. -/
def Cfg.write (c : Cfg) (idx : Nat) (v : Word) : Cfg :=
  if idx = 0x00 then { c with role := if v.getLsbD 1 then .receiver else .sender }
  else if idx = 0x01 then { c with byteDelay := v.truncate 16 }
  else if idx = 0x02 then { c with retryLimit := v.truncate 16 }
  else if 0x03 ≤ idx ∧ idx ≤ 0x0A then { c with rejectMask := c.rejectMask.setIfInBounds (idx - 3) v }
  else c

/-- R45 to R48: such a write is ignored while busy. -/
def State.writeCfg (s : State) (idx : Nat) (v : Word) : State :=
  if s.ctl.busy then s else { s with cfg := s.cfg.write idx v }

end Sys2Proof.Machine
end

