-- ==== Sys2Proof/Machine/Dispatch.lean ====
section
/-! DEFINITION. The dispatch: one arm per constructor of Instr, in the order of spec/opcode_table.json. -/

namespace Sys2Proof.Machine

def exec (i : Instr) (s : State) : Host.Outcome State Fault Refusal :=
  match i with
  | .stx => Sys2Proof.Machine.execStx s
  | .etx => Sys2Proof.Machine.execEtx s
  | .eot => Sys2Proof.Machine.execEot s
  | .enq => Sys2Proof.Machine.execEnq s
  | .bs => Sys2Proof.Machine.execBs s
  | .tab => Sys2Proof.Machine.execTab s
  | .xoff => Sys2Proof.Machine.execXoff s
  | .symR => Sys2Proof.Machine.execSymR s
  | .symS => Sys2Proof.Machine.execSymS s
  | .gHandshake => Sys2Proof.Machine.execGHandshake s
  | .gAck => Sys2Proof.Machine.execGAck s
  | .symB => Sys2Proof.Machine.execSymB s
  | .symP => Sys2Proof.Machine.execSymP s
  | .symN => Sys2Proof.Machine.execSymN s
  | .symX => Sys2Proof.Machine.execSymX s
  | .pad => Sys2Proof.Machine.execPad s
  | .fnameByte d => Sys2Proof.Machine.execFnameByte d s
  | .payloadByte d => Sys2Proof.Machine.execPayloadByte d s
  | .checksumByte d => Sys2Proof.Machine.execChecksumByte d s
  | .startSend => Sys2Proof.Machine.execStartSend s
  | .startRecv => Sys2Proof.Machine.execStartRecv s

end Sys2Proof.Machine
end

