-- ==== Sys2Proof/Machine/Engine.lean ====
section
/-! DEFINITION. One move of the endpoint: the engine's turn (an ACT step, a WAIT step with its event, R306 and R309),
or a move of its environment; and the placing of an instruction where the next step fetches it. -/

namespace Sys2Proof.Machine

/-- R83: the byte taken from the queue is decoded by the state and run; a byte that names no row of the table gets
the response of R92. -/
def runByte (b : Byte) (s : State) : Host.Outcome State Fault Refusal :=
  match decode s.pos (.line b) with
  | .ok i => exec i s
  | .error _ => receive b s

/-- R306, R309: a WAIT step takes the queued byte, else the timeout if the timer has expired. With neither, nothing
happens and a millisecond passes (log 5). -/
def waitStep (s : State) : Host.Outcome State Fault Refusal :=
  match s.rxq with
  | b :: rest => runByte b { s with rxq := rest }
  | [] => if s.ctl.tmr = s.ctl.tlim then .next (s.abort .timeout) else .next s.tick

/-- R187: an ACT step. -/
def actStep (s : State) : Host.Outcome State Fault Refusal := (actFlow s).outcome s

/-- A step of a busy endpoint: LINEFAIL first (R308, R309), then the WAIT or the ACT step. -/
def busyStep (s : State) : Host.Outcome State Fault Refusal :=
  if s.line = .failed then .next (s.abort .lineIo)
  else if s.listening then waitStep s
  else actStep s

/-- R66, log 13: an engine stuck in a transmission does nothing, until the line fails. Then the step aborts, and the
writes it made before stand (R310). -/
def stuckStep (p : Pending) (s : State) : Host.Outcome State Fault Refusal :=
  if s.line = .failed then .next ((s.withPending p).abort .lineIo) else .next s

/-- The engine's turn. IDLE, DONE and ABORTED are quiescent (R312, R318, R341). -/
def engineStep (s : State) : Host.Outcome State Fault Refusal :=
  match s.pos with
  | .idle | .done | .aborted => .next s
  | .unused => .refused .unusedStateCode
  | .s1 | .s2 | .s3 | .s4 | .s5 | .s6 | .s7 | .s8 | .s9 | .r1 | .r2 | .r3 | .r4 | .r5 | .r6 | .r7 | .r8 =>
    match s.stuck with
    | some p => stuckStep p s
    | none => busyStep s

/-- R44, R45, R325: a register write by the host: a CTRL write with START = 1 runs that command. -/
def hostWrite (idx : Nat) (v : Word) (s : State) : Host.Outcome State Fault Refusal :=
  if idx = 0x00 then
    match decode s.pos (.ctrl v) with
    | .ok i => exec i s
    | .error _ => .next (s.writeCfg idx v)
  else .next (s.writeCfg idx v)

/-- R274, D29: the host sets its file list; a change during a session is not modelled. -/
def hostFiles (files : List HostFile) (s : State) : Host.Outcome State Fault Refusal :=
  if s.ctl.busy then .refused .fileListChangedWhileBusy else .next { s with files := files }

/-- R66, R308, R346: the line's condition changes. A failed line stays failed while the endpoint is busy ("Once the
channel has failed, the environment presents LINEFAIL at the next step"; log 27), and the line of a stuck transmission
stays as it is until it fails (log 13). -/
def setLine (l : Line) (s : State) : State :=
  if s.stuck.isSome ∨ (s.ctl.busy = true ∧ s.line = .failed) then s else { s with line := l }

/-- One move, taken from the list of inputs (log 1). -/
def applyInput (m : Input) (s : State) : Host.Outcome State Fault Refusal :=
  match m with
  | .turn => engineStep s
  | .arrive b => .next { s with rxq := s.rxq ++ [b] }
  | .tick => .next s.tick
  | .lineFail => .next { s with line := .failed }
  | .lineFailAfter n => .next (setLine (.failsAfter n) s)
  | .lineStallAfter n => .next (setLine (.stallsAfter n) s)
  | .lineUp => .next (setLine .up s)
  | .write idx v => hostWrite idx v s
  | .read idx => .next (s.emit (.regRead idx (regRead s idx)))
  | .setFiles files => hostFiles files s
  | .reset keepQueue => .next (s.engineReset keepQueue)

/-- The next move of the endpoint: the first listed input, or the engine's turn where none is listed. -/
def move (s : State) : Host.Outcome State Fault Refusal :=
  match s.inputs with
  | m :: rest => applyInput m { s with inputs := rest }
  | [] => engineStep s

/-- R22: the role and the code of a state in which a byte is awaited. -/
def awaitingAt (p : Pos) : Role × St :=
  match p with
  | .s1 => (.sender, .n1)
  | .s3 => (.sender, .n3)
  | .s4 => (.sender, .n4)
  | .s5 => (.sender, .n5)
  | .s6 => (.sender, .n6)
  | .s8 => (.sender, .n8)
  | .r1 => (.receiver, .n1)
  | .r2 => (.receiver, .n2)
  | .r3 => (.receiver, .n3)
  | .r4 => (.receiver, .n4)
  | .r5 => (.receiver, .n5)
  | .r6 => (.receiver, .n6)
  | .r7 => (.receiver, .n7)
  | .r8 => (.receiver, .n8)
  | .s2 | .s7 | .s9 | .idle | .done | .aborted | .unused => (.sender, .idle)

/-- Log 10: `s` with the bits of an instruction placed where the next step takes them: a CTRL write as the next input,
or a byte at the head of the line queue of an endpoint that awaits it in the instruction's home state, with the
engine's turn next, a line that has not failed, and the host ready to answer ok. -/
def place (s : State) : Instr → State
  | i =>
    match encode i, i.home with
    | .ctrl w, _ => { s with inputs := .write 0x00 w :: s.inputs, ctl := { s.ctl with busy := false } }
    | .line b, some p =>
      { s with
        inputs := .turn :: s.inputs, rxq := b :: s.rxq, answers := .ok :: s.answers, stuck := none
        line := if s.line = .failed then .up else s.line
        ctl := { s.ctl with st := (awaitingAt p).2, roleAct := (awaitingAt p).1, ph := .wait, busy := true } }
    | .line _, none => s

end Sys2Proof.Machine
end

