-- ==== Sys2Proof/Machine/Step.lean ====
section
/-! DEFINITION. One step of the machine, and the placing of an instruction where the next step fetches it. -/

namespace Sys2Proof.Machine

/-- One step: the next move of the endpoint, with the three outcomes of Host/Core.lean. -/
def step : State → Host.Outcome State Fault Refusal := fun s => Sys2Proof.Machine.move s

/-- `s` with the instruction that `decodeTableWord` reads from the word, placed so that the next step runs it. -/
def State.withFetchWord (s : State) (nbits w : Nat) : State :=
  match Sys2Proof.decodeTableWord nbits w with
  | some i => Sys2Proof.Machine.place s i
  | none => s

end Sys2Proof.Machine
end

