-- ==== Sys2Proof/Machine/Codec.lean ====
section
/-! DEFINITION. The host's filename codec (spec/41_framer.md rules R155 and R156): a host adapter, outside the engine
(R7), stated as reference functions because the spec states them (log 21). No step calls them. -/

namespace Sys2Proof.Machine

/-- R155: ASCII-only mapping of one byte to upper case. -/
def asciiUpper (b : Byte) : Byte := if 0x61 ≤ b.toNat ∧ b.toNat ≤ 0x7A then b - 0x20 else b

/-- R156: ASCII-only mapping of one byte to lower case. -/
def asciiLower (b : Byte) : Byte := if 0x41 ≤ b.toNat ∧ b.toNat ≤ 0x5A then b + 0x20 else b

/-- R155: a byte of an admitted logical name. -/
def printable (b : Byte) : Bool := decide (0x20 ≤ b.toNat) && decide (b.toNat ≤ 0x7E)

/-- The separator '.' of a logical name. -/
def dot : Byte := 0x2E

/-- R155: the text before the first dot, or all of it. -/
def stemOf (s : List Byte) : List Byte := s.takeWhile (· != dot)

/-- R155: the text after the first dot and up to the next, or none. -/
def extOf (s : List Byte) : List Byte := ((s.dropWhile (· != dot)).drop 1).takeWhile (· != dot)

/-- R150, R155: a field, truncated to its width and padded with spaces. -/
def wireField (width : Nat) (s : List Byte) : List Byte :=
  (s.map asciiUpper).take width ++ List.replicate (width - (s.map asciiUpper).length) 0x20

/-- R155: `to_wire`; the host adapter refuses a name with a byte outside 0x20 to 0x7E. -/
def toWire (s : List Byte) : Option (List Byte) :=
  if s.all printable then some (wireField 8 (stemOf s) ++ wireField 3 (extOf s)) else none

/-- R156: a field without its trailing spaces. -/
def stripSpaces (s : List Byte) : List Byte := (s.reverse.dropWhile (· == 0x20)).reverse

/-- R156: `from_wire`, the reference Unix adapter's. -/
def fromWire (n : List Byte) : List Byte :=
  let a := (stripSpaces (n.take 8)).map asciiLower
  let e := (stripSpaces ((n.drop 8).take 3)).map asciiLower
  if e.isEmpty then a else a ++ dot :: e

end Sys2Proof.Machine
end

