-- ==== Sys2Proof/Machine/Link.lean ====
section
/-! DEFINITION. Two endpoints and the line between them (spec/44_session.md rules R278 to R282): each endpoint's
transmitted bytes reach the other's inbound queue, unchanged on an ideal line, or corrupted or lost on a faulty one. -/

namespace Sys2Proof.Machine

/-- R281 (a), (b): what the line does with one transmitted byte. -/
inductive LineFault where
  | deliver
  | corrupt (b : Byte)
  | lose
  deriving DecidableEq, Repr

/-- R280, R281: the bytes appended to the queue for one transmitted byte. -/
def LineFault.carried (f : LineFault) (b : Byte) : List Byte :=
  match f with
  | .deliver => [b]
  | .corrupt b' => [b']
  | .lose => []

/-- R280, R281: the bytes appended for the bytes transmitted, in order; where no fault is listed, the ideal line. -/
def carry : List Byte → List LineFault → List Byte
  | [], _ => []
  | b :: bs, [] => b :: carry bs []
  | b :: bs, f :: fs => f.carried b ++ carry bs fs

/-- R279: the bytes a step has transmitted. -/
def transmitted (before after : State) : List Byte := txBytes (after.trace.drop before.trace.length)

/-- R278: the two endpoints. `Q_AB` is B's inbound queue and `Q_BA` is A's. -/
structure Link where
  a : State
  b : State
  deriving DecidableEq, Repr

/-- R278, R281 (c): a system step: a step of A or of B, with the line's treatment of the bytes it transmits, or noise. -/
inductive LinkMove where
  | stepA (faults : List LineFault)
  | stepB (faults : List LineFault)
  | noiseToA (b : Byte)
  | noiseToB (b : Byte)
  deriving DecidableEq, Repr

/-- R279: bytes reach the tail of an endpoint's inbound queue. -/
def State.deliver (s : State) (bs : List Byte) : State := { s with rxq := s.rxq ++ bs }

/-- R278 to R281: one system step. -/
def Link.move (l : Link) : LinkMove → Host.Outcome Link Fault Refusal
  | .stepA faults =>
    match step l.a with
    | .next a' => .next { a := a', b := l.b.deliver (carry (transmitted l.a a') faults) }
    | .fault f => .fault f
    | .refused r => .refused r
  | .stepB faults =>
    match step l.b with
    | .next b' => .next { a := l.a.deliver (carry (transmitted l.b b') faults), b := b' }
    | .fault f => .fault f
    | .refused r => .refused r
  | .noiseToA b => .next { l with a := l.a.deliver [b] }
  | .noiseToB b => .next { l with b := l.b.deliver [b] }

/-- R282: the session of an endpoint has ended. -/
def State.sessionEnded (s : State) : Bool := s.pos = .done || s.pos = .aborted

/-- R282: a session has succeeded when both endpoints are DONE. -/
def Link.succeeded (l : Link) : Bool := l.a.pos = .done && l.b.pos = .done

end Sys2Proof.Machine
end

