-- ==== Sys2Proof/Safety.lean ====
section
/-! DEFINITION. The terms the claims use: when a state awaits a byte, what a line accepts, and the invariant of the
endpoint, clause by clause from the rules that state it. -/

namespace Sys2Proof.Machine

/-- The endpoint is in state `p` and awaits a byte there. -/
abbrev State.Awaits (s : State) (p : Pos) : Prop := s.pos = p ∧ s.listening = true

/-- The endpoint is in state `p` and its next step is that state's ACT step: no input is listed before the engine's
turn, the line has not failed and no transmission is stuck. -/
abbrev State.Acts (s : State) (p : Pos) : Prop :=
  s.pos = p ∧ s.listening = false ∧ s.stuck = none ∧ s.inputs = [] ∧ s.line ≠ .failed

/-- R66: the line accepts the next byte. -/
def Line.accepts : Line → Bool
  | .up | .failsAfter (_ + 1) | .stallsAfter (_ + 1) => true
  | .failsAfter 0 | .stallsAfter 0 | .failed => false

/-- R66: the line after the next byte, where it accepts it. -/
def Line.afterByte : Line → Line
  | .failsAfter (n + 1) => .failsAfter n
  | .stallsAfter (n + 1) => .stallsAfter n
  | .up => .up
  | .failsAfter 0 => .failsAfter 0
  | .stallsAfter 0 => .stallsAfter 0
  | .failed => .failed

/-- R14, R66, R186, R310: how a step that began in `s` ends where it transmits from `m`, its own writes, outputs and host
operations up to there made, and the line does not accept the byte. A line that fails aborts the step, and those writes
stand; on a line that never accepts the byte the step is stuck, and they are pending. -/
abbrev NotTransmitted (s m : State) (o : Host.Outcome State Fault Refusal) : Prop :=
  (m.line = .failsAfter 0 → o = .next ({ m with line := .failed }.abort .lineIo)) ∧
  (m.line = .stallsAfter 0 → o = .next { s with
    trace := m.trace, line := .stallsAfter 0, answers := m.answers, draws := m.draws
    stuck := some { ctl := m.ctl, snd := m.snd, rcv := m.rcv, name := m.name, blk := m.blk } })

/-- R324: the limit of the await of a state. -/
def awaitLimit (p : Pos) : BitVec 16 := if p = .s1 ∨ p = .r1 then 5000 else 2000

/-- R301, R321, R324: in state `p`, TMO aborts the session: the engine's turn comes, the line has not failed, no byte
is queued, and the timer has reached the limit of the await (`TimerInv` says that `tlim` holds it). -/
abbrev TimesOutIn (p : Pos) : Prop :=
  ∀ s : State, s.Awaits p → s.inputs = [] → s.line ≠ .failed → s.rxq = [] →
    s.ctl.tlim = awaitLimit p → s.ctl.tmr = awaitLimit p → step s = .next (s.abort .timeout)

/-- R36, R173, R185, R310: the states in which the source holds an open handle. -/
def sourceHeld : Pos → Bool
  | .s3 | .s4 | .s5 | .s6 | .s7 | .s8 | .s9 => true
  | .s1 | .s2 | .r1 | .r2 | .r3 | .r4 | .r5 | .r6 | .r7 | .r8 | .idle | .done | .aborted | .unused => false

/-- R40, R226, R227, R310: the states in which the sink holds an open handle. -/
def sinkHeld : Pos → Bool
  | .r6 | .r7 | .r8 => true
  | .s1 | .s2 | .s3 | .s4 | .s5 | .s6 | .s7 | .s8 | .s9 | .r1 | .r2 | .r3 | .r4 | .r5 | .idle | .done | .aborted
  | .unused => false

/-- R22, R23, R26, R301 to R303: the status registers say what the position says. -/
abbrev StatusInv (s : State) : Prop :=
  s.pos ≠ .unused ∧
  s.ctl.busy = s.pos.inSession ∧
  s.ctl.done = decide (s.pos = .done) ∧
  s.ctl.aborted = decide (s.pos = .aborted) ∧
  (s.ctl.aborted = false → s.ctl.cause = .none ∧ s.ctl.msg = .none ∧ s.ctl.abortSt = .idle) ∧
  (s.ctl.aborted = true →
    s.ctl.cause ≠ .none ∧ s.ctl.msg = msgOf s.ctl.roleAct s.ctl.abortSt ∧ s.ctl.abortSt ≠ .idle ∧
      s.ctl.abortSt ≠ .done ∧ s.ctl.abortSt ≠ .aborted) ∧
  (∀ p ∈ s.stuck,
    s.ctl.busy = true ∧ p.ctl.roleAct = s.ctl.roleAct ∧ p.ctl.st = s.ctl.st ∧ p.ctl.done = false ∧
      (s.ctl.roleAct = .sender → p.rcv = s.rcv) ∧ (s.ctl.roleAct = .receiver → p.snd = s.snd)) ∧
  (s.pos.isReceiver = true → s.ctl.ph = .wait)

/-- R25, R320, R321, R324: in a WAIT phase the limit is the state's and the timer is not past it. -/
abbrev TimerInv (s : State) : Prop :=
  s.pos.reading ≠ .nothing → s.ctl.ph = .wait → s.ctl.tlim = awaitLimit s.pos ∧ s.ctl.tmr ≤ s.ctl.tlim

/-- R36, R40, R311: a handle is open exactly in the states that hold it; after DONE or ABORTED none is. -/
abbrev HandleInv (s : State) : Prop := s.snd.srcOpen = sourceHeld s.pos ∧ s.rcv.snkOpen = sinkHeld s.pos

/-- R27, R28, R274: the sender's place in the file list. -/
abbrev SessionInv (s : State) : Prop :=
  (s.pos.isSender = true → filesAdmitted s.files = true ∧ s.snd.n.toNat = s.files.length) ∧
  (s.pos = .s1 ∨ s.pos = .s2 → s.ctl.filesDone = 0) ∧
  (sourceHeld s.pos = true → s.snd.k < s.snd.n ∧ s.ctl.filesDone = s.snd.k) ∧
  (s.pos = .done → s.ctl.roleAct = .sender → s.ctl.filesDone = s.snd.n)

/-- R31, R32, R33, R35, R65, R141, R145: the sender's place in the file and the held block. -/
abbrev BlockInv (s : State) : Prop :=
  sourceHeld s.pos = true →
    ∃ f ∈ s.files[s.snd.k.toNat]?,
      s.snd.len.toNat = f.data.length ∧
      s.snd.off.toNat = min (128 * s.snd.nblk.toNat) s.snd.len.toNat ∧
      128 * s.snd.nblk.toNat < s.snd.len.toNat + 128 ∧
      (s.snd.blkValid = true →
        s.snd.off < s.snd.len ∧
        s.snd.blen.toNat = blockBytes s.snd ∧
        s.blk = padBlock (fileBytes f.data s.snd.off.toNat (blockBytes s.snd)) ∧
        s.snd.chk = xorChecksum s.blk)

/-- R29, R30, R32, R34, R146, R182: what holds in each sender state. -/
abbrev SenderInv (s : State) : Prop :=
  (s.pos = .s1 ∨ s.pos = .s2 → s.snd.blkValid = false) ∧
  (s.pos = .s3 ∨ s.pos = .s4 ∨ s.pos = .s5 → s.snd.blkValid = false ∧ s.snd.off = 0 ∧ s.snd.nblk = 0) ∧
  (s.pos = .s3 → s.ctl.ph = .wait → s.snd.i = 0) ∧
  (s.pos = .s4 → s.snd.i < 11) ∧
  (s.pos = .s5 → s.snd.i = 11) ∧
  (s.pos = .s6 → s.ctl.ph = .wait → atEof s.snd = false) ∧
  (s.pos = .s7 → s.snd.j < 128 ∧ (s.snd.blkValid = false → s.snd.j = 0 ∧ s.snd.off < s.snd.len)) ∧
  (s.pos = .s8 → s.snd.blkValid = true ∧ s.snd.j = 128) ∧
  (s.pos = .s9 → atEof s.snd = true) ∧
  (sourceHeld s.pos = true → s.cfg.retryLimit ≠ 0 → s.snd.retry ≤ s.cfg.retryLimit)

/-- R37, R38, R39, R153: what holds in each receiver state. -/
abbrev ReceiverInv (s : State) : Prop :=
  (s.pos = .r4 → s.rcv.i < 11 ∧ (s.name.toList.take s.rcv.i.toNat).all (validNameByte s.cfg.rejectMask) = true) ∧
  (s.pos = .r5 → s.rcv.i = 11 ∧ s.name.toList.all (validNameByte s.cfg.rejectMask) = true) ∧
  (s.pos = .r7 → s.rcv.j < 128 ∧ s.rcv.acc = xorAll (s.blk.toList.take s.rcv.j.toNat)) ∧
  (s.pos = .r8 → s.rcv.j = 128 ∧ s.rcv.acc = xorChecksum s.blk)

/-- The invariant of the endpoint. -/
abbrev Inv (s : State) : Prop :=
  StatusInv s ∧ TimerInv s ∧ HandleInv s ∧ SessionInv s ∧ BlockInv s ∧ SenderInv s ∧ ReceiverInv s

end Sys2Proof.Machine
end

