-- ==== Sys2Proof/Certificates/Slice0/Obligations.lean ====
section
/-! DEFINITION. The statements for the provers, from the numbered rules of the spec. A result is written as the whole
next state, so that it also says what the step leaves unchanged. There is no memory to frame (R60): the buffers, the
queue, the trace and every register are fields of the state. -/

open Sys2Proof Sys2Proof.Machine

/-! ### Encoding -/

/-- R80, R83: every well-formed instruction, in every state that reads it, is read back from its own bits. -/
def Obligations.DecodeEncodeAgree : Prop :=
  ∀ (i : Instr) (p : Pos), i.wellFormed = true → i.readIn p = true → decode p (encode i) = .ok i

/-- R80, R83, R270: what the decoder reads encodes back to the byte, or to the two bits of CTRL, it was read from. -/
def Obligations.DecodedCodeEncodesBack : Prop :=
  (∀ (p : Pos) (b : Byte) (i : Instr), decode p (.line b) = .ok i →
    encode i = .line b ∧ i.wellFormed = true ∧ i.readIn p = true) ∧
  ∀ (p : Pos) (w : Word) (i : Instr), decode p (.ctrl w) = .ok i →
    ∃ e : Word, encode i = .ctrl e ∧ e &&& 3 = w &&& 3

/-- R83: which decoder reads a byte depends on the state alone: name, payload and checksum decoding take every value, and
no state but those of R83 reads a byte. Two clauses are the model's choice: log 6, that control decoding rejects, by the
name of an "other" byte, exactly the values outside the alphabet (R83 and R92 call every byte the state does not expect
"other", and the step gives both the same response); and log 8, that a payload byte 0x1A is named PAD. -/
def Obligations.StateSelectsDecoder : Prop :=
  (∀ (p : Pos) (b : Byte), p ∈ [Pos.s1, .s3, .s5, .s6, .s8, .r1, .r2, .r3, .r5, .r6] →
    (decode p (.line b) = .error (.otherByte b) ↔
      b ∉ ([0x02, 0x03, 0x04, 0x05, 0x08, 0x09, 0x13, 0x52, 0x53, 0x47, 0x42, 0x50, 0x4E, 0x58, 0x1A] : List Byte))) ∧
  (∀ b : Byte,
    decode .s4 (.line b) = .ok (.fnameByte b) ∧ decode .r4 (.line b) = .ok (.fnameByte b) ∧
    decode .r7 (.line b) = .ok (if b = 0x1A then .pad else .payloadByte b) ∧
    decode .r8 (.line b) = .ok (.checksumByte b)) ∧
  ∀ (p : Pos) (b : Byte), p ∈ [Pos.idle, .s2, .s7, .s9, .done, .aborted, .unused] →
    decode p (.line b) = .error .notAwaiting

/-- R80, R81, R270: words written out from the spec's encodings decode to the instructions they stand for. -/
def Obligations.SpecWordsDecode : Prop :=
  decode .r6 (.line 0b00000010#8) = .ok .stx ∧ decode .r3 (.line 0b00010011#8) = .ok .xoff ∧
  decode .r2 (.line 0b01000111#8) = .ok .gHandshake ∧ decode .s8 (.line 0b01000111#8) = .ok .gAck ∧
  decode .r7 (.line 0b00000010#8) = .ok (.payloadByte 0b00000010#8) ∧
  decode .r7 (.line 0b00011010#8) = .ok .pad ∧
  decode .s4 (.line 0b01011000#8) = .ok (.fnameByte 0b01011000#8) ∧
  decode .idle (.ctrl 0b00000000000000000000000000000001#32) = .ok .startSend ∧
  decode .idle (.ctrl 0b00000000000000000000000000000011#32) = .ok .startRecv

/-! ### The step -/

/-- R67, R83, R306: a WAIT step takes the head byte of the queue, exactly one, and runs the instruction it decodes to;
a byte that names none gets the response of the state (R92). -/
def Obligations.StepRunsReceivedByte : Prop :=
  ∀ (s : State) (b : Byte) (rest : List Byte), s.listening = true → s.line ≠ .failed → s.rxq = b :: rest →
    (∀ i, decode s.pos (.line b) = .ok i →
      (s.inputs = [] → step s = exec i { s with rxq := rest }) ∧
      ∀ more, s.inputs = .turn :: more → step s = exec i { s with rxq := rest, inputs := more }) ∧
    ∀ e, decode s.pos (.line b) = .error e →
      (s.inputs = [] → step s = receive b { s with rxq := rest }) ∧
      ∀ more, s.inputs = .turn :: more → step s = receive b { s with rxq := rest, inputs := more }

/-- R45, R270: a CTRL write with START = 1 runs the command its ROLE bit names; one with START = 0 writes ROLE, while
not busy. -/
def Obligations.StepRunsControlWrite : Prop :=
  ∀ (s : State) (w : Word) (more : List Input), s.inputs = .write 0x00 w :: more →
    (w.getLsbD 0 = true → w.getLsbD 1 = false → step s = exec .startSend { s with inputs := more }) ∧
    (w.getLsbD 0 = true → w.getLsbD 1 = true → step s = exec .startRecv { s with inputs := more }) ∧
    (w.getLsbD 0 = false →
      step s = .next { s with
        inputs := more
        cfg := { s.cfg with
          role := if s.ctl.busy then s.cfg.role else if w.getLsbD 1 then .receiver else .sender } })

/-- R83: the meaning of a received byte depends only on the state of the endpoint: an instruction of the line has, in
every state, the effect of its byte there; where no byte is awaited the byte is not consumed (R67). -/
def Obligations.MeaningDependsOnStateOnly : Prop :=
  (∀ (i : Instr) (b : Byte) (s : State), encode i = .line b → exec i s = receive b s) ∧
  ∀ (i : Instr) (b : Byte) (s : State), encode i = .line b → s.listening = false →
    exec i s = .next { s with rxq := b :: s.rxq }

/-! ### The sender's WAIT phases -/

/-- R171: S1, WAIT phase: 'S' leads to S2.ACT, any other byte back to S1.ACT, and TMO after 5000 ms aborts with
TIMEOUT. -/
def Obligations.AwaitReceiverReadyInS1 : Prop :=
  (∀ s : State, s.Awaits .s1 → exec .symS s = .next { s with ctl := { s.ctl with st := .n2, ph := .act } }) ∧
  (∀ (s : State) (b : Byte), s.Awaits .s1 → b ≠ 0x53 →
    receive b s = .next { s with ctl := { s.ctl with st := .n1, ph := .act } }) ∧
  TimesOutIn .s1

/-- R175: S3, WAIT phase: BS leads to S4.ACT, any other byte, 'X' and 'N' among them, aborts with UNEXPECTED, and TMO
after 2000 ms with TIMEOUT. -/
def Obligations.AwaitFilenameRequestInS3 : Prop :=
  (∀ s : State, s.Awaits .s3 → exec .bs s = .next { s with ctl := { s.ctl with st := .n4, ph := .act } }) ∧
  (∀ (s : State) (b : Byte), s.Awaits .s3 → b ≠ 0x08 → receive b s = .next (s.abort .unexpected)) ∧
  (∀ s : State, s.Awaits .s3 →
    exec .symX s = .next (s.abort .unexpected) ∧ exec .symN s = .next (s.abort .unexpected)) ∧
  TimesOutIn .s3

/-- R177: S4, WAIT phase: the echo must equal `F[k].name[i]`, in all 8 bits; it advances i, and after the last leads to
S5.ACT; any other byte leads back to S3.ACT, and TMO after 2000 ms aborts with TIMEOUT. -/
def Obligations.AwaitEchoInS4 : Prop :=
  (∀ (s : State) (f : HostFile) (e : Byte), s.Awaits .s4 →
    s.files[s.snd.k.toNat]? = some f → f.name[s.snd.i.toNat]? = some e →
    (exec (.fnameByte e) s = .next { s with
      snd := { s.snd with i := s.snd.i + 1 }
      ctl := { s.ctl with st := if s.snd.i = 10 then .n5 else .n4, ph := .act } }) ∧
    (∀ d : Byte, d ≠ e →
      exec (.fnameByte d) s = .next { s with ctl := { s.ctl with st := .n3, ph := .act } }) ∧
    (e ≠ 0x58 → exec .symX s = .next { s with ctl := { s.ctl with st := .n3, ph := .act } })) ∧
  TimesOutIn .s4

/-- R179: S5, WAIT phase: TAB leads to S6.ACT, any other byte, 'X' among them, back to S3.ACT, and TMO after 2000 ms
aborts with TIMEOUT. -/
def Obligations.AwaitReadyForDataInS5 : Prop :=
  (∀ s : State, s.Awaits .s5 → exec .tab s = .next { s with ctl := { s.ctl with st := .n6, ph := .act } }) ∧
  (∀ (s : State) (b : Byte), s.Awaits .s5 → b ≠ 0x09 →
    receive b s = .next { s with ctl := { s.ctl with st := .n3, ph := .act } }) ∧
  (∀ s : State, s.Awaits .s5 → exec .symX s = .next { s with ctl := { s.ctl with st := .n3, ph := .act } }) ∧
  TimesOutIn .s5

/-- R181: S6, WAIT phase: 'P' leads to S7.ACT with j = 0, any other byte, 'N' among them, aborts with UNEXPECTED, and
TMO after 2000 ms with TIMEOUT. -/
def Obligations.AwaitProceedInS6 : Prop :=
  (∀ s : State, s.Awaits .s6 → exec .symP s = .next { s with
    snd := { s.snd with j := 0 }, ctl := { s.ctl with st := .n7, ph := .act } }) ∧
  (∀ (s : State) (b : Byte), s.Awaits .s6 → b ≠ 0x50 → receive b s = .next (s.abort .unexpected)) ∧
  (∀ s : State, s.Awaits .s6 → exec .symN s = .next (s.abort .unexpected)) ∧
  TimesOutIn .s6

/-- R184, R276: S8, WAIT phase: 'G' advances, 'B' resends until a bound that is not 0 is used up and then aborts with
RETRY_LIMIT, any other byte aborts with UNEXPECTED, and TMO after 2000 ms with TIMEOUT. That `blen` and `chk` keep
their values without a held block is log 31's, the model's choice. -/
def Obligations.AwaitAcknowledgementInS8 : Prop :=
  (∀ s : State, s.Awaits .s8 → exec .gAck s = .next { s with
    snd := { s.snd with
      off := s.snd.off + s.snd.blen.zeroExtend 32, blkValid := false, nblk := s.snd.nblk + 1, retry := 0 }
    ctl := { s.ctl with st := .n6, ph := .act } }) ∧
  (∀ s : State, s.Awaits .s8 → s.cfg.retryLimit = 0 ∨ s.snd.retry ≠ s.cfg.retryLimit →
    exec .symB s = .next { s with
      snd := { s.snd with retry := BitVec.ofNat 16 (min (s.snd.retry.toNat + 1) 0xFFFF) }
      ctl := { s.ctl with st := .n6, ph := .act } }) ∧
  (∀ s : State, s.Awaits .s8 → s.cfg.retryLimit ≠ 0 → s.snd.retry = s.cfg.retryLimit →
    exec .symB s = .next (s.abort .retryLimit)) ∧
  (∀ (s : State) (b : Byte), s.Awaits .s8 → b ≠ 0x47 → b ≠ 0x42 → receive b s = .next (s.abort .unexpected)) ∧
  (∀ s : State, s.Awaits .s8 → exec .symN s = .next (s.abort .unexpected)) ∧
  TimesOutIn .s8

/-! ### The receiver's states -/

/-- R222: R1: 'R' is answered with 'S' and leads to R2; any other byte draws nothing and starts a fresh 5000 ms await;
TMO after 5000 ms aborts with TIMEOUT. -/
def Obligations.AwaitSenderReadyInR1 : Prop :=
  (∀ s : State, s.Awaits .r1 → s.line.accepts = true → exec .symR s = .next { s with
    trace := s.trace ++ [.tx 0x53], line := s.line.afterByte
    ctl := { s.ctl with st := .n2, ph := .wait, tmr := 0, tlim := 2000 } }) ∧
  (∀ (s : State) (b : Byte), s.Awaits .r1 → b ≠ 0x52 → receive b s = .next { s with
    ctl := { s.ctl with st := .n1, ph := .wait, tmr := 0, tlim := 5000 } }) ∧
  TimesOutIn .r1

/-- R223: R2: 'G' leads to R3, any other byte aborts with UNEXPECTED, and TMO after 2000 ms with TIMEOUT. -/
def Obligations.AwaitHandshakeInR2 : Prop :=
  (∀ s : State, s.Awaits .r2 → exec .gHandshake s = .next { s with
    ctl := { s.ctl with st := .n3, ph := .wait, tmr := 0, tlim := 2000 } }) ∧
  (∀ (s : State) (b : Byte), s.Awaits .r2 → b ≠ 0x47 → receive b s = .next (s.abort .unexpected)) ∧
  TimesOutIn .r2

/-- R224: R3: EOT is answered with BS and leads to R4 with i = 0; XOFF ends the session cleanly, with no output; any
other byte is answered with 'X'; TMO after 2000 ms aborts with TIMEOUT. That `ph` keeps its value in DONE is log 30's,
the model's choice (R23 leaves it unspecified). -/
def Obligations.AwaitFileOrEndInR3 : Prop :=
  (∀ s : State, s.Awaits .r3 → s.line.accepts = true → exec .eot s = .next { s with
    trace := s.trace ++ [.tx 0x08], line := s.line.afterByte, rcv := { s.rcv with i := 0 }
    ctl := { s.ctl with st := .n4, ph := .wait, tmr := 0, tlim := 2000 } }) ∧
  (∀ s : State, s.Awaits .r3 → exec .xoff s = .next { s with
    ctl := { s.ctl with st := .done, done := true, busy := false } }) ∧
  (∀ (s : State) (b : Byte), s.Awaits .r3 → s.line.accepts = true → b ≠ 0x04 → b ≠ 0x13 →
    receive b s = .next { s with
      trace := s.trace ++ [.tx 0x58], line := s.line.afterByte
      ctl := { s.ctl with st := .n3, ph := .wait, tmr := 0, tlim := 2000 } }) ∧
  TimesOutIn .r3

/-- R225: R4: a valid byte (R152) is stored at name[i], echoed, and advances i, after the last to R5; an invalid one is
answered with 'X' and leads to R3; TMO after 2000 ms aborts with TIMEOUT. -/
def Obligations.AwaitFilenameByteInR4 : Prop :=
  (∀ (s : State) (d : Byte), s.Awaits .r4 → s.line.accepts = true → s.rcv.i < 11 →
    validNameByte s.cfg.rejectMask d = true →
    exec (.fnameByte d) s = .next { s with
      trace := s.trace ++ [.tx d], line := s.line.afterByte
      name := s.name.setIfInBounds s.rcv.i.toNat d, rcv := { s.rcv with i := s.rcv.i + 1 }
      ctl := { s.ctl with st := if s.rcv.i = 10 then .n5 else .n4, ph := .wait, tmr := 0, tlim := 2000 } }) ∧
  (∀ (s : State) (d : Byte), s.Awaits .r4 → s.line.accepts = true → validNameByte s.cfg.rejectMask d = false →
    exec (.fnameByte d) s = .next { s with
      trace := s.trace ++ [.tx 0x58], line := s.line.afterByte
      ctl := { s.ctl with st := .n3, ph := .wait, tmr := 0, tlim := 2000 } }) ∧
  TimesOutIn .r4

/-- R226: R5: ENQ asks the host to open the sink; with ok, TAB is sent and the state is R6; a failed open does not
abort: like any byte but ENQ, it draws 'X' and leads to R3; TMO after 2000 ms aborts with TIMEOUT. -/
def Obligations.AwaitFilenameEndInR5 : Prop :=
  (∀ s t : State, s.Awaits .r5 → s.line.accepts = true → s.hostCall (.snkOpen s.name) = (.ok, t) →
    exec .enq s = .next { t with
      trace := t.trace ++ [.tx 0x09], line := s.line.afterByte
      rcv := { s.rcv with snkOpen := true, nblk := 0, nbad := 0 }
      ctl := { s.ctl with st := .n6, ph := .wait, tmr := 0, tlim := 2000 } }) ∧
  (∀ s t : State, s.Awaits .r5 → s.line.accepts = true → s.hostCall (.snkOpen s.name) = (.fail, t) →
    exec .enq s = .next { t with
      trace := t.trace ++ [.tx 0x58], line := s.line.afterByte
      ctl := { s.ctl with st := .n3, ph := .wait, tmr := 0, tlim := 2000 } }) ∧
  (∀ (s : State) (b : Byte), s.Awaits .r5 → s.line.accepts = true → b ≠ 0x05 → receive b s = .next { s with
    trace := s.trace ++ [.tx 0x58], line := s.line.afterByte
    ctl := { s.ctl with st := .n3, ph := .wait, tmr := 0, tlim := 2000 } }) ∧
  TimesOutIn .r5

/-- R227: R6: STX is answered with 'P' and leads to R7 with j = 0 and acc = 0; ETX asks the host to close the file, counts
it and leads to R3, with no output, or aborts with FILE_IO where the close fails; any other byte is answered with 'N';
TMO after 2000 ms aborts with TIMEOUT. -/
def Obligations.AwaitBlockOrFileEndInR6 : Prop :=
  (∀ s : State, s.Awaits .r6 → s.line.accepts = true → exec .stx s = .next { s with
    trace := s.trace ++ [.tx 0x50], line := s.line.afterByte, rcv := { s.rcv with j := 0, acc := 0 }
    ctl := { s.ctl with st := .n7, ph := .wait, tmr := 0, tlim := 2000 } }) ∧
  (∀ s t : State, s.Awaits .r6 → s.hostCall .snkClose = (.ok, t) → exec .etx s = .next { t with
    rcv := { s.rcv with snkOpen := false }
    ctl := { s.ctl with filesDone := s.ctl.filesDone + 1, st := .n3, ph := .wait, tmr := 0, tlim := 2000 } }) ∧
  (∀ s t : State, s.Awaits .r6 → s.hostCall .snkClose = (.fail, t) → exec .etx s = .next (t.abort .fileIo)) ∧
  (∀ (s : State) (b : Byte), s.Awaits .r6 → s.line.accepts = true → b ≠ 0x02 → b ≠ 0x03 →
    receive b s = .next { s with
      trace := s.trace ++ [.tx 0x4E], line := s.line.afterByte
      ctl := { s.ctl with st := .n6, ph := .wait, tmr := 0, tlim := 2000 } }) ∧
  TimesOutIn .r6

/-- R228, R122: R7: every byte value is payload, PAD and the control symbols among them: it is stored at blk[j] and added
to acc, and after the last leads to R8; TMO after 2000 ms aborts with TIMEOUT. -/
def Obligations.AwaitPayloadInR7 : Prop :=
  (∀ (s : State) (d : Byte), s.Awaits .r7 → s.rcv.j < 128 → exec (.payloadByte d) s = .next { s with
    blk := s.blk.setIfInBounds s.rcv.j.toNat d
    rcv := { s.rcv with acc := s.rcv.acc ^^^ d, j := s.rcv.j + 1 }
    ctl := { s.ctl with st := if s.rcv.j = 127 then .n8 else .n7, ph := .wait, tmr := 0, tlim := 2000 } }) ∧
  (∀ s : State, s.Awaits .r7 → s.rcv.j < 128 → exec .pad s = .next { s with
    blk := s.blk.setIfInBounds s.rcv.j.toNat 0x1A
    rcv := { s.rcv with acc := s.rcv.acc ^^^ 0x1A, j := s.rcv.j + 1 }
    ctl := { s.ctl with st := if s.rcv.j = 127 then .n8 else .n7, ph := .wait, tmr := 0, tlim := 2000 } }) ∧
  TimesOutIn .r7

/-- R229: R8: a checksum equal to acc (R123) asks the host to write the block; with ok, 'G' is sent after it; a failed
write sends nothing and aborts with FILE_IO; another checksum is answered with 'B'; TMO after 2000 ms aborts with
TIMEOUT. -/
def Obligations.AwaitChecksumInR8 : Prop :=
  (∀ s t : State, s.Awaits .r8 → s.line.accepts = true → s.hostCall (.snkWrite s.blk) = (.ok, t) →
    exec (.checksumByte s.rcv.acc) s = .next { t with
      trace := t.trace ++ [.tx 0x47], line := s.line.afterByte
      rcv := { s.rcv with nblk := s.rcv.nblk + 1, nbad := 0 }
      ctl := { s.ctl with st := .n6, ph := .wait, tmr := 0, tlim := 2000 } }) ∧
  (∀ s t : State, s.Awaits .r8 → s.hostCall (.snkWrite s.blk) = (.fail, t) →
    exec (.checksumByte s.rcv.acc) s = .next (t.abort .fileIo)) ∧
  (∀ (s : State) (c : Byte), s.Awaits .r8 → s.line.accepts = true → c ≠ s.rcv.acc →
    exec (.checksumByte c) s = .next { s with
      trace := s.trace ++ [.tx 0x42], line := s.line.afterByte
      rcv := { s.rcv with nbad := BitVec.ofNat 16 (min (s.rcv.nbad.toNat + 1) 0xFFFF) }
      ctl := { s.ctl with st := .n6, ph := .wait, tmr := 0, tlim := 2000 } }) ∧
  TimesOutIn .r8

/-! ### The sender's ACT phases -/

/-- R170, R174, R176, R178, R183: S1, S3, S4, S5 and S8 transmit one byte and await the reply; S4's byte is
`F[k].name[i]` as the host gave it (R150). -/
def Obligations.ActPhasesThatAwaitReply : Prop :=
  (∀ s : State, s.Acts .s1 → s.line.accepts = true → step s = .next { s with
    trace := s.trace ++ [.tx 0x52], line := s.line.afterByte
    ctl := { s.ctl with ph := .wait, tmr := 0, tlim := 5000 } }) ∧
  (∀ s : State, s.Acts .s3 → s.line.accepts = true → step s = .next { s with
    trace := s.trace ++ [.tx 0x04], line := s.line.afterByte, snd := { s.snd with i := 0 }
    ctl := { s.ctl with ph := .wait, tmr := 0, tlim := 2000 } }) ∧
  (∀ s : State, s.Acts .s5 → s.line.accepts = true → step s = .next { s with
    trace := s.trace ++ [.tx 0x05], line := s.line.afterByte
    ctl := { s.ctl with ph := .wait, tmr := 0, tlim := 2000 } }) ∧
  (∀ s : State, s.Acts .s8 → s.line.accepts = true → step s = .next { s with
    trace := s.trace ++ [.tx s.snd.chk], line := s.line.afterByte
    ctl := { s.ctl with ph := .wait, tmr := 0, tlim := 2000 } }) ∧
  ∀ (s : State) (f : HostFile) (e : Byte), s.Acts .s4 → s.line.accepts = true →
    s.files[s.snd.k.toNat]? = some f → f.name[s.snd.i.toNat]? = some e →
    step s = .next { s with
      trace := s.trace ++ [.tx e], line := s.line.afterByte
      ctl := { s.ctl with ph := .wait, tmr := 0, tlim := 2000 } }

/-- R172, R173: S2 transmits 'G', then opens the first file, or ends the session of an empty list with XOFF. That `ph`
keeps its value in DONE is log 30's, the model's choice (R23 leaves it unspecified). That `blen` and `chk` keep their
values without a held block is log 31's, the model's choice. -/
def Obligations.ActOfS2OpensFirstFile : Prop :=
  (∀ s : State, s.Acts .s2 → s.line.accepts = true → s.line.afterByte.accepts = true → s.snd.n = 0 →
    step s = .next { s with
      trace := s.trace ++ [.tx 0x47, .tx 0x13], line := s.line.afterByte.afterByte, snd := { s.snd with k := 0 }
      ctl := { s.ctl with st := .done, done := true, busy := false } }) ∧
  ∀ s s1 : State, s.Acts .s2 → s.line.accepts = true → 0 < s.snd.n →
    s1 = { s with trace := s.trace ++ [.tx 0x47], line := s.line.afterByte, snd := { s.snd with k := 0 } } →
    (∀ (t : State) (f : HostFile), s1.hostCall (.srcOpen 0) = (.ok, t) → s.files[0]? = some f →
      step s = .next { t with
        snd := { s1.snd with
          srcOpen := true, len := BitVec.ofNat 32 f.data.length, off := 0, blkValid := false, retry := 0, nblk := 0 }
        ctl := { s.ctl with st := .n3, ph := .act } }) ∧
    ∀ t : State, s1.hostCall (.srcOpen 0) = (.fail, t) → step s = .next (t.abort .fileIo)

/-- R185, R173: S9 closes the file, whatever the host answers, counts it, and opens the next file or, after the last,
transmits XOFF and ends the session. That `ph` keeps its value in DONE is log 30's, the model's choice (R23 leaves it
unspecified). That `blen` and `chk` keep their values without a held block is log 31's, the model's choice. -/
def Obligations.ActOfS9EndsFile : Prop :=
  ∀ s u s1 : State, s.Acts .s9 → u = (s.hostCall (.srcClose s.snd.k)).2 →
    s1 = { u with
      snd := { s.snd with srcOpen := false, k := s.snd.k + 1 }
      ctl := { s.ctl with filesDone := s.ctl.filesDone + 1 } } →
    (¬ s.snd.k + 1 < s.snd.n → s.line.accepts = true → step s = .next { s1 with
      trace := u.trace ++ [.tx 0x13], line := s.line.afterByte
      ctl := { s1.ctl with st := .done, done := true, busy := false } }) ∧
    (s.snd.k + 1 < s.snd.n →
      (∀ (t : State) (f : HostFile), s1.hostCall (.srcOpen (s.snd.k + 1)) = (.ok, t) →
        s.files[(s.snd.k + 1).toNat]? = some f →
        step s = .next { t with
          snd := { s1.snd with
            srcOpen := true, len := BitVec.ofNat 32 f.data.length, off := 0, blkValid := false, retry := 0,
            nblk := 0 }
          ctl := { s1.ctl with st := .n3, ph := .act } }) ∧
      ∀ t : State, s1.hostCall (.srcOpen (s.snd.k + 1)) = (.fail, t) → step s = .next (t.abort .fileIo))

/-- R180, R146: S6 transmits ETX at EOF and STX otherwise; EOF is "no block held and off = L". -/
def Obligations.ActOfS6AnnouncesBlockOrEnd : Prop :=
  (∀ s : State, s.Acts .s6 → s.line.accepts = true → s.snd.blkValid = false → s.snd.off = s.snd.len →
    step s = .next { s with
      trace := s.trace ++ [.tx 0x03], line := s.line.afterByte, ctl := { s.ctl with st := .n9, ph := .act } }) ∧
  ∀ s : State, s.Acts .s6 → s.line.accepts = true → s.snd.blkValid = true ∨ s.snd.off ≠ s.snd.len →
    step s = .next { s with
      trace := s.trace ++ [.tx 0x02], line := s.line.afterByte
      ctl := { s.ctl with ph := .wait, tmr := 0, tlim := 2000 } }

/-- R141, R182, R121: S7 with no block held assembles the next one and transmits nothing. -/
def Obligations.ActOfS7AssemblesBlock : Prop :=
  ∀ (s : State) (n : Nat), s.Acts .s7 → s.snd.blkValid = false → s.snd.off < s.snd.len →
    n = min 128 (s.snd.len.toNat - s.snd.off.toNat) →
    (∀ (t : State) (f : HostFile), s.hostCall (.srcRead s.snd.k s.snd.off n) = (.ok, t) →
      s.files[s.snd.k.toNat]? = some f → s.snd.off.toNat + n ≤ f.data.length →
      ∃ blk : Vector Byte 128,
        (∀ i : Fin 128, blk[i.val] =
          if i.val < n then f.data.getD (s.snd.off.toNat + i.val) 0 else 0x1A) ∧
        step s = .next { t with
          blk := blk
          snd := { s.snd with blen := BitVec.ofNat 8 n, blkValid := true, chk := xorChecksum blk } }) ∧
    ∀ t : State, s.hostCall (.srcRead s.snd.k s.snd.off n) = (.fail, t) → step s = .next (t.abort .fileIo)

/-- R182, R283: S7 with a block held transmits `blk[j]`, with the delay before every byte but the first. -/
def Obligations.ActOfS7StreamsBlock : Prop :=
  ∀ (s : State) (b : Byte), s.Acts .s7 → s.line.accepts = true → s.snd.blkValid = true →
    s.blk[s.snd.j.toNat]? = some b →
    step s = .next { s with
      trace := s.trace ++ ((if s.snd.j = 0 then [] else [.delay s.cfg.byteDelay]) ++ [.tx b])
      line := s.line.afterByte
      snd := { s.snd with j := s.snd.j + 1 }
      ctl := if s.snd.j = 127 then { s.ctl with st := .n8, ph := .act } else s.ctl }

/-! ### START -/

/-- R270, R274: START_SEND while not busy: with a file list within the bounds it opens a session; a list outside them
is refused, by name. That `blen` and `chk` keep their values without a held block is log 31's, the model's choice. -/
def Obligations.StartSendOpensSession : Prop :=
  (∀ s : State, s.ctl.busy = false → s.files.length ≤ 65535 →
    (∀ f ∈ s.files, f.name.length = 11 ∧ f.data.length < 2 ^ 32) →
    exec .startSend s = .next { s with
      cfg := { s.cfg with role := .sender }
      ctl := { s.ctl with
        roleAct := .sender, busy := true, done := false, aborted := false, cause := .none, msg := .none,
        abortSt := .idle, filesDone := 0, st := .n1, ph := .act }
      snd := { s.snd with
        n := BitVec.ofNat 16 s.files.length, k := 0, srcOpen := false, blkValid := false, off := 0, len := 0,
        retry := 0, nblk := 0 } }) ∧
  ∀ s : State, s.ctl.busy = false →
    (65535 < s.files.length ∨ ∃ f ∈ s.files, f.name.length ≠ 11 ∨ 2 ^ 32 ≤ f.data.length) →
    exec .startSend s = .refused .fileListNotAdmitted

/-- R270, R220, R221: START_RECV while not busy opens a receiver session in R1 with a fresh 5000 ms await. -/
def Obligations.StartRecvOpensSession : Prop :=
  ∀ s : State, s.ctl.busy = false → exec .startRecv s = .next { s with
    cfg := { s.cfg with role := .receiver }
    ctl := { s.ctl with
      roleAct := .receiver, busy := true, done := false, aborted := false, cause := .none, msg := .none,
      abortSt := .idle, filesDone := 0, st := .n1, ph := .wait, tmr := 0, tlim := 5000 }
    rcv := { s.rcv with snkOpen := false, nblk := 0, nbad := 0 } }

/-- R328: START while busy is ignored entirely, its ROLE bit among it. -/
def Obligations.StartWhileBusyIgnored : Prop :=
  (∀ s : State, s.ctl.busy = true → exec .startSend s = .next s ∧ exec .startRecv s = .next s) ∧
  ∀ (s : State) (w : Word) (more : List Input), s.ctl.busy = true → s.inputs = .write 0x00 w :: more →
    w.getLsbD 0 = true → step s = .next { s with inputs := more }

/-! ### Aborts, the line, the timer -/

/-- R310, R302, R303: an abort closes an open handle, ignoring the answer, and writes the status registers; it
transmits nothing. That `ph` keeps its value in ABORTED is log 30's, the model's choice (R23 leaves it unspecified). -/
def Obligations.AbortEntry : Prop :=
  ∀ (s t : State) (c : Cause),
    (t = if s.ctl.roleAct = .sender ∧ s.snd.srcOpen = true then
        { (s.hostCall (.srcClose s.snd.k)).2 with snd := { s.snd with srcOpen := false } }
      else if s.ctl.roleAct = .receiver ∧ s.rcv.snkOpen = true then
        { (s.hostCall .snkClose).2 with rcv := { s.rcv with snkOpen := false } }
      else s) →
    s.abort c = { t with
      stuck := none
      ctl := { s.ctl with
        abortSt := s.ctl.st, cause := c, aborted := true, busy := false, st := .aborted
        msg := match s.ctl.roleAct, decide (s.ctl.st = .n1) with
          | .sender, true => .receiverNotReady
          | .sender, false => .receiverNotResponding
          | .receiver, true => .senderNotReady
          | .receiver, false => .senderNotResponding } } ∧
    txBytes (s.abort c).trace = txBytes s.trace

/-- R273, R15: a host operation is recorded with its answer, takes the next listed answer (or a free one), and changes
nothing else. -/
def Obligations.HostCallRecorded : Prop :=
  ∀ (s : State) (op : HostOp),
    (∀ a rest, s.answers = a :: rest → s.hostCall op =
      (a, { s with answers := rest, trace := s.trace ++ [.host op a] })) ∧
    (s.answers = [] → s.hostCall op =
      (Config.hostAnswer s.draws,
        { s with draws := s.draws + 1, trace := s.trace ++ [.host op (Config.hostAnswer s.draws)] }))

/-- R308, R309, R186, R230: a failed line aborts the next step of a busy endpoint, before a queued byte, a timeout or
an ACT step, and stays failed while the endpoint is busy, whatever its environment does (log 27); in IDLE, DONE and
ABORTED it has no effect. -/
def Obligations.LineFailureComesFirst : Prop :=
  (∀ s : State, s.pos.inSession = true → s.stuck = none → s.inputs = [] → s.line = .failed →
    step s = .next (s.abort .lineIo)) ∧
  (∀ s t : State, s.ctl.busy = true → s.line = .failed → step s = .next t → t.line = .failed) ∧
  ∀ s : State, s.pos ∈ [Pos.idle, .done, .aborted] → s.inputs = [] → step s = .next s

/-- R66, R186, R230, R310, R14: in every step that transmits, a line that fails aborts the step, and the byte counts as
not transmitted; a line that never accepts the byte leaves the step stuck: not aborted, not done, no register written.
What the step did before the byte (bytes accepted, host operations, register writes) is named each time: outputs stand,
and the writes stand in an abort and are pending in a stuck step, which does nothing until the line fails. That a byte
consumed by a stuck step counts as removed is log 32's, the model's choice. -/
def Obligations.FailureInTransmission : Prop :=
  (∀ (s : State) (p : Pos), p ∈ [Pos.s1, .s2, .s3, .s5, .s6, .s8] → s.Acts p → NotTransmitted s s (step s)) ∧
  (∀ (s : State) (f : HostFile) (e : Byte), s.Acts .s4 → s.files[s.snd.k.toNat]? = some f →
    f.name[s.snd.i.toNat]? = some e → NotTransmitted s s (step s)) ∧
  (∀ (s : State) (b : Byte), s.Acts .s7 → s.snd.blkValid = true → s.blk[s.snd.j.toNat]? = some b →
    NotTransmitted s { s with trace := s.trace ++ if s.snd.j = 0 then [] else [.delay s.cfg.byteDelay] } (step s)) ∧
  (∀ s : State, s.Acts .s2 → s.line.accepts = true → s.snd.n = 0 →
    NotTransmitted s
      { s with trace := s.trace ++ [.tx 0x47], line := s.line.afterByte, snd := { s.snd with k := 0 } } (step s)) ∧
  (∀ s u : State, s.Acts .s9 → ¬ s.snd.k + 1 < s.snd.n → u = (s.hostCall (.srcClose s.snd.k)).2 →
    NotTransmitted s
      { u with
        snd := { s.snd with srcOpen := false, k := s.snd.k + 1 }
        ctl := { s.ctl with filesDone := s.ctl.filesDone + 1 } } (step s)) ∧
  (∀ (s : State) (i : Instr) (p : Pos), (i, p) ∈ [(Instr.symR, Pos.r1), (.eot, .r3), (.stx, .r6)] → s.Awaits p →
    NotTransmitted s s (exec i s)) ∧
  (∀ (s : State) (b : Byte),
    (s.Awaits .r3 ∧ b ≠ 0x04 ∧ b ≠ 0x13) ∨ (s.Awaits .r4 ∧ validNameByte s.cfg.rejectMask b = false) ∨
      (s.Awaits .r5 ∧ b ≠ 0x05) ∨ (s.Awaits .r6 ∧ b ≠ 0x02 ∧ b ≠ 0x03) →
    NotTransmitted s s (receive b s)) ∧
  (∀ (s : State) (d : Byte), s.Awaits .r4 → s.rcv.i < 11 → validNameByte s.cfg.rejectMask d = true →
    NotTransmitted s { s with name := s.name.setIfInBounds s.rcv.i.toNat d } (exec (.fnameByte d) s)) ∧
  (∀ s t : State, s.Awaits .r5 → s.hostCall (.snkOpen s.name) = (.ok, t) →
    NotTransmitted s { t with rcv := { s.rcv with snkOpen := true, nblk := 0, nbad := 0 } } (exec .enq s)) ∧
  (∀ s t : State, s.Awaits .r5 → s.hostCall (.snkOpen s.name) = (.fail, t) → NotTransmitted s t (exec .enq s)) ∧
  (∀ s t : State, s.Awaits .r8 → s.hostCall (.snkWrite s.blk) = (.ok, t) →
    NotTransmitted s { t with rcv := { s.rcv with nblk := s.rcv.nblk + 1, nbad := 0 } }
      (exec (.checksumByte s.rcv.acc) s)) ∧
  (∀ (s : State) (c : Byte), s.Awaits .r8 → c ≠ s.rcv.acc →
    NotTransmitted s { s with rcv := { s.rcv with nbad := BitVec.ofNat 16 (min (s.rcv.nbad.toNat + 1) 0xFFFF) } }
      (exec (.checksumByte c) s)) ∧
  ∀ (s : State) (q : Pending), s.stuck = some q → s.pos.inSession = true → s.inputs = [] →
    (s.line ≠ .failed → step s = .next s) ∧
    (s.line = .failed → step s = .next
      ({ s with ctl := q.ctl, snd := q.snd, rcv := q.rcv, name := q.name, blk := q.blk }.abort .lineIo))

/-- R309, R321: with no byte queued, TMO comes exactly when the timer has reached its limit; until then the silent
turn is one millisecond (log 5). A tick in a WAIT phase makes the timer the smaller of itself plus one and its limit, and
a tick outside a WAIT has no effect. -/
def Obligations.TimeoutExactlyAtLimit : Prop :=
  (∀ s : State, s.listening = true → s.inputs = [] → s.line ≠ .failed → s.rxq = [] → s.ctl.tmr = s.ctl.tlim →
    step s = .next (s.abort .timeout)) ∧
  (∀ s : State, s.listening = true → s.inputs = [] → s.line ≠ .failed → s.rxq = [] → s.ctl.tmr < s.ctl.tlim →
    step s = .next { s with ctl := { s.ctl with tmr := s.ctl.tmr + 1 } }) ∧
  (∀ (s : State) (more : List Input), s.inputs = .tick :: more → s.listening = true →
    step s = .next { s with
      inputs := more
      ctl := { s.ctl with tmr := if s.ctl.tmr < s.ctl.tlim then s.ctl.tmr + 1 else s.ctl.tlim } }) ∧
  (∀ (s : State) (more : List Input), s.inputs = .tick :: more → s.listening = false →
    step s = .next { s with inputs := more })

/-! ### The register port -/

/-- R44, R49, R22, R23, R24, R301, R302: each field of the STATUS word reads its status register, by the numbers the
tables of these rules give; PHASE reads 0 in IDLE, DONE and ABORTED; the reserved bits read 0 (log 26). -/
def Obligations.StatusWordFields : Prop :=
  ∀ (s : State) (w : Word), w = regRead s 0x10 →
    w.extractLsb' 0 1 = BitVec.ofBool s.ctl.busy ∧
    w.extractLsb' 1 1 = BitVec.ofBool s.ctl.done ∧
    w.extractLsb' 2 1 = BitVec.ofBool s.ctl.aborted ∧
    w.extractLsb' 3 1 = (if s.ctl.roleAct = .receiver then 1 else 0) ∧
    w.extractLsb' 8 1 =
      (if s.ctl.st = .idle ∨ s.ctl.st = .done ∨ s.ctl.st = .aborted then 0 else if s.ctl.ph = .wait then 1 else 0) ∧
    (∀ q ∈ [(St.idle, 0x0#4), (.n1, 0x1#4), (.n2, 0x2#4), (.n3, 0x3#4), (.n4, 0x4#4), (.n5, 0x5#4), (.n6, 0x6#4),
        (.n7, 0x7#4), (.n8, 0x8#4), (.n9, 0x9#4), (.done, 0xE#4), (.aborted, 0xF#4)],
      (s.ctl.st = q.1 → w.extractLsb' 4 4 = q.2) ∧ (s.ctl.abortSt = q.1 → w.extractLsb' 20 4 = q.2)) ∧
    (∀ q ∈ [(Cause.none, 0#4), (.timeout, 1#4), (.unexpected, 2#4), (.lineIo, 3#4), (.fileIo, 4#4), (.retryLimit, 5#4)],
      s.ctl.cause = q.1 → w.extractLsb' 12 4 = q.2) ∧
    (∀ q ∈ [(Msg.none, 0#4), (.receiverNotReady, 1#4), (.receiverNotResponding, 2#4), (.senderNotReady, 3#4),
        (.senderNotResponding, 4#4)],
      s.ctl.msg = q.1 → w.extractLsb' 16 4 = q.2) ∧
    w.extractLsb' 9 3 = 0 ∧ w.extractLsb' 24 8 = 0

/-- R44 to R48, R50: a host write outside CTRL: the configuration words keep the written value while not busy and
ignore the write while busy; every other word ignores it. -/
def Obligations.RegisterWrites : Prop :=
  ∀ (s : State) (idx : Nat) (v : Word) (more : List Input), s.inputs = .write idx v :: more → idx ≠ 0 →
    (s.ctl.busy = true → step s = .next { s with inputs := more }) ∧
    (s.ctl.busy = false → ∃ cfg : Cfg, step s = .next { s with inputs := more, cfg := cfg } ∧
      cfg.role = s.cfg.role ∧
      cfg.byteDelay = (if idx = 1 then v.truncate 16 else s.cfg.byteDelay) ∧
      cfg.retryLimit = (if idx = 2 then v.truncate 16 else s.cfg.retryLimit) ∧
      ∀ w : Fin 8, cfg.rejectMask[w.val] = if idx = w.val + 3 then v else s.cfg.rejectMask[w.val])

/-- R44, R45, R50: what the host reads from the other words; a read changes nothing of the engine. That bits 31 to 16 of
CFG_DELAY, CFG_RETRY, FILES_DONE and RETRY_CNT read 0, and every reserved bit with them, is log 26's deduction: R45 says
it of CTRL alone. -/
def Obligations.RegisterReads : Prop :=
  (∀ (s : State) (idx : Nat) (more : List Input), s.inputs = .read idx :: more →
    step s = .next { s with inputs := more, trace := s.trace ++ [.regRead idx (regRead s idx)] }) ∧
  ∀ s : State,
    regRead s 0x00 = (if s.cfg.role = .receiver then 2 else 0) ∧
    regRead s 0x01 = s.cfg.byteDelay.zeroExtend 32 ∧
    regRead s 0x02 = s.cfg.retryLimit.zeroExtend 32 ∧
    (∀ w : Fin 8, regRead s (w.val + 3) = s.cfg.rejectMask[w.val]) ∧
    regRead s 0x11 = s.ctl.filesDone.zeroExtend 32 ∧
    regRead s 0x12 = (if s.ctl.roleAct = .sender then s.snd.nblk else s.rcv.nblk) ∧
    regRead s 0x13 = (if s.ctl.roleAct = .sender then s.snd.retry else s.rcv.nbad).zeroExtend 32 ∧
    regRead s 0x14 = (if s.ctl.roleAct = .sender then s.snd.off else 0) ∧
    ∀ idx : Nat, 0x0A < idx ∧ idx < 0x10 ∨ 0x14 < idx → regRead s idx = 0

/-! ### Reset -/

/-- R52, R49: the registers the spec gives a reset value hold it. -/
def Obligations.ResetValues : Prop :=
  State.reset.ctl.st = .idle ∧ State.reset.ctl.roleAct = .sender ∧ State.reset.ctl.busy = false ∧
  State.reset.ctl.done = false ∧ State.reset.ctl.aborted = false ∧ State.reset.ctl.cause = .none ∧
  State.reset.ctl.msg = .none ∧ State.reset.ctl.abortSt = .idle ∧ State.reset.ctl.filesDone = 0 ∧
  State.reset.snd.k = 0 ∧ State.reset.snd.n = 0 ∧ State.reset.snd.off = 0 ∧ State.reset.snd.len = 0 ∧
  State.reset.snd.nblk = 0 ∧ State.reset.rcv.nblk = 0 ∧ State.reset.snd.retry = 0 ∧ State.reset.rcv.nbad = 0 ∧
  State.reset.snd.blkValid = false ∧ State.reset.snd.srcOpen = false ∧ State.reset.rcv.snkOpen = false ∧
  (∀ idx : Nat, regRead State.reset idx = 0)

/-- R340: reset, from any state, whatever was in progress: the registers hold their reset values, the line and the
host are not touched, and no host operation is performed; the queue is kept or discarded. The unspecified registers
take the values of `State.reset` (log 3, the model's choice). -/
def Obligations.ResetFromAnyState : Prop :=
  ∀ (s : State) (keep : Bool) (more : List Input), s.inputs = .reset keep :: more →
    step s = .next { State.reset with
      inputs := more, rxq := if keep then s.rxq else [], line := s.line, files := s.files, trace := s.trace
      answers := s.answers, draws := s.draws }

/-! ### Checksum, framer, codec -/

/-- R124: what the checksum detects: exactly the error patterns whose XOR, the checksum byte's error among them, is
not zero; so every single bit, but not bit 0 of both d[0] and d[1]. -/
def Obligations.ChecksumDetection : Prop :=
  (∀ (sent got : Vector Byte 128) (c : Byte),
    c = xorChecksum got ↔
      xorAll (List.zipWith (· ^^^ ·) sent.toList got.toList) ^^^ (xorChecksum sent ^^^ c) = 0) ∧
  (∀ (sent : Vector Byte 128) (t : Fin 128) (bit : Fin 8),
    xorChecksum (sent.set t.val (sent[t.val] ^^^ (1#8 <<< bit.val))) ≠ xorChecksum sent) ∧
  (∀ (c : Byte) (bit : Fin 8), c ^^^ (1#8 <<< bit.val) ≠ c) ∧
  ∀ sent got : Vector Byte 128, got = (sent.set 0 (sent[0] ^^^ 1)).set 1 (sent[1] ^^^ 1) →
    got ≠ sent ∧ xorChecksum got = xorChecksum sent

/-- R125, R121: PAD bytes contribute 0x1A when their number is odd, and nothing otherwise. -/
def Obligations.PaddingInChecksum : Prop :=
  ∀ p : List Byte, p.length ≤ 128 →
    xorChecksum (padBlock p) = xorAll p ^^^ (if (128 - p.length) % 2 = 1 then 0x1A else 0x00)

/-- R62, R142: block byte t is the t-th file byte where there is one, and PAD at exactly the other positions. -/
def Obligations.PaddedBlockLayout : Prop :=
  ∀ (p : List Byte) (t : Fin 128), p.length ≤ 128 →
    (∀ h : t.val < p.length, (padBlock p)[t.val] = p[t.val]) ∧ (p.length ≤ t.val → (padBlock p)[t.val] = 0x1A)

/-- R152, R48: a filename byte is valid exactly when it is 0x20 to 0x7E and its bit of the 256-bit REJECT_MASK is 0. -/
def Obligations.FilenameByteValidity : Prop :=
  ∀ (mask : Vector Word 8) (b : Byte),
    validNameByte mask b = true ↔
      0x20 ≤ b ∧ b ≤ 0x7E ∧ ∀ w : Fin 8, w.val = b.toNat / 32 → mask[w.val].getLsbD (b.toNat % 32) = false

/-- R144, R143: a file that is closed in S9 has been sent in ⌈L/128⌉ acknowledged blocks: no pad-only block. -/
def Obligations.BlockCountAtFileEnd : Prop :=
  ∀ s : State, Inv s → s.pos = .s9 →
    s.snd.nblk.toNat = (s.snd.len.toNat + 127) / 128 ∧ s.snd.off = s.snd.len ∧ s.snd.blkValid = false

/-- R277: the sink's content is the concatenation of the blocks written since its open: an ok open begins an empty
file, an ok write appends exactly the 128 bytes, and no other output changes it. -/
def Obligations.SinkContents : Prop :=
  (∀ (tr : List Output) (name : Vector Byte 11),
    sinkFiles (tr ++ [.host (.snkOpen name) .ok]) = { name := name, content := [] } :: sinkFiles tr) ∧
  (∀ (tr : List Output) (blk : Vector Byte 128) (f : SinkFile) (rest : List SinkFile), sinkFiles tr = f :: rest →
    sinkFiles (tr ++ [.host (.snkWrite blk) .ok]) = { f with content := f.content ++ blk.toList } :: rest) ∧
  ∀ (tr : List Output) (o : Output), (∀ name, o ≠ .host (.snkOpen name) .ok) → (∀ blk, o ≠ .host (.snkWrite blk) .ok) →
    sinkFiles (tr ++ [o]) = sinkFiles tr

/-- R155, R156, R157: the host codec: a wire name has 11 bytes, exactly the names of printable bytes have one, and a
name within the conditions of R157 (b) comes back in lower case. -/
def Obligations.HostCodecLaws : Prop :=
  (∀ s w : List Byte, toWire s = some w → w.length = 11) ∧
  (∀ s : List Byte, (∃ w, toWire s = some w) ↔ ∀ b ∈ s, 0x20 ≤ b ∧ b ≤ 0x7E) ∧
  (∀ stem ext w : List Byte, dot ∉ stem → dot ∉ ext → stem.length ≤ 8 → ext.length ≤ 3 → ext ≠ [] →
    stem.getLast? ≠ some 0x20 → ext.getLast? ≠ some 0x20 → toWire (stem ++ dot :: ext) = some w →
    fromWire w = (stem ++ dot :: ext).map asciiLower) ∧
  ∀ stem w : List Byte, dot ∉ stem → stem.length ≤ 8 → stem.getLast? ≠ some 0x20 → toWire stem = some w →
    fromWire w = stem.map asciiLower

/-! ### Invariants and whole-machine rules -/

/-- The invariant of the endpoint holds right after reset. The values that R52 leaves unspecified are log 3's, the
model's choice. -/
def Obligations.ResetMeetsInvariant : Prop := Inv State.reset

/-- R22 to R26, R301 to R303, R311, R320, R324: every step keeps the status registers, the timer and the two handles
in step with the position: busy exactly in a session, done and aborted never both, a message that is the state's, no
handle open outside its states. -/
def Obligations.StepKeepsStatusTimerHandles : Prop :=
  ∀ s t : State, Inv s → step s = .next t → StatusInv t ∧ TimerInv t ∧ HandleInv t

/-- R27 to R35, R65, R141, R145, R274: every step keeps the sender's place: in the file list, in the file (off is the
acknowledged bytes, a multiple of 128 or L), and the held block equal to the file's bytes and PAD. -/
def Obligations.StepKeepsSenderInvariant : Prop :=
  ∀ s t : State, Inv s → step s = .next t → SessionInv t ∧ BlockInv t ∧ SenderInv t

/-- R37 to R39, R61, R153: every step keeps the receiver's indices in range, its received name valid and its running
checksum the XOR of the bytes received. -/
def Obligations.StepKeepsReceiverInvariant : Prop :=
  ∀ s t : State, Inv s → step s = .next t → ReceiverInv t

/-- R16, R61, R93: from a state that meets the invariant no step faults, and the only refusals are the two the host
can cause by its file list (R274). -/
def Obligations.NoFaultUnderInvariant : Prop :=
  ∀ s : State, Inv s →
    (∃ t, step s = .next t) ∨ step s = .refused .fileListNotAdmitted ∨ step s = .refused .fileListChangedWhileBusy

/-- R301, R303, R305: which abort can end a step of which state: TIMEOUT only a silent WAIT whose timer has expired,
UNEXPECTED only S3, S6, S8 and R2, FILE_IO only S2, S9, S7, R6 and R8, RETRY_LIMIT only S8. -/
def Obligations.AbortCausesByState : Prop :=
  ∀ s t : State, Inv s → step s = .next t → s.ctl.aborted = false → t.ctl.aborted = true →
    s.pos.inSession = true ∧ t.ctl.abortSt = s.ctl.st ∧ t.ctl.roleAct = s.ctl.roleAct ∧
    (t.ctl.cause = .timeout → s.listening = true ∧ s.rxq = [] ∧ s.ctl.tmr = s.ctl.tlim ∧ s.line ≠ .failed) ∧
    (t.ctl.cause = .unexpected → s.pos ∈ [Pos.s3, .s6, .s8, .r2] ∧ s.listening = true ∧ s.rxq ≠ []) ∧
    (t.ctl.cause = .fileIo → s.pos ∈ [Pos.s2, .s9, .s7, .r6, .r8]) ∧
    (t.ctl.cause = .retryLimit → s.pos = .s8 ∧ s.cfg.retryLimit ≠ 0 ∧ s.snd.retry = s.cfg.retryLimit) ∧
    (t.ctl.cause = .lineIo → t.line = .failed)

/-- R46 to R48, R74, R270, R274: the configuration and the file list do not change while a session runs, but by a
reset. -/
def Obligations.ConfigurationFixedInSession : Prop :=
  ∀ s t : State, step s = .next t → s.ctl.busy = true → (∀ keep more, s.inputs ≠ .reset keep :: more) →
    t.cfg = s.cfg ∧ t.files = s.files

/-- R32, R121, R147, R184, R188: while a block is held, no step changes it or its checksum: what is sent again after 'B'
is byte-identical. From one sender state to another, it is dropped only by 'G' in S8, with `off` advanced by `blen`. -/
def Obligations.HeldBlockUnchanged : Prop :=
  ∀ s t : State, Inv s → step s = .next t → s.pos.isSender = true → s.snd.blkValid = true → t.pos.isSender = true →
    (t.snd.blkValid = true →
      t.blk = s.blk ∧ t.snd.chk = s.snd.chk ∧ t.snd.blen = s.snd.blen ∧ t.snd.off = s.snd.off) ∧
    (t.snd.blkValid = false →
      s.Awaits .s8 ∧ s.rxq = 0x47 :: t.rxq ∧ t.pos = .s6 ∧ t.snd.off = s.snd.off + s.snd.blen.zeroExtend 32)

/-- R67, R73, R361: an arriving byte is appended to the tail of the inbound queue, and nothing else changes; a step leaves
the queue as it is, or takes exactly its head in a WAIT, or has one byte arrive; only a reset discards it. -/
def Obligations.QueueDiscipline : Prop :=
  (∀ (s : State) (b : Byte) (more : List Input), s.inputs = .arrive b :: more →
    step s = .next { s with inputs := more, rxq := s.rxq ++ [b] }) ∧
  ∀ s t : State, step s = .next t →
    (t.rxq = s.rxq ∧ ∀ b more, s.inputs ≠ .arrive b :: more) ∨ (s.listening = true ∧ ∃ b, s.rxq = b :: t.rxq) ∨
    (∃ b more, s.inputs = .arrive b :: more ∧ t.rxq = s.rxq ++ [b]) ∨
    ∃ more, s.inputs = .reset false :: more ∧ t.rxq = []

/-- R16, R70, R312, R341: outputs are only added, after those before; and in IDLE, DONE and ABORTED nothing is
transmitted. -/
def Obligations.OutputsOnlyAppended : Prop :=
  ∀ s t : State, step s = .next t →
    (∃ new, t.trace = s.trace ++ new) ∧
    (s.pos ∈ [Pos.idle, .done, .aborted] → txBytes t.trace = txBytes s.trace)

/-! ### Runs of many steps from any state -/

/-- R182, R140, R62: from S7 with a block held and j = 0, 128 engine turns on a line that is up transmit exactly the
128 bytes of the block, in order, with BYTE_DELAY_MS before each but the first, and lead to S8. -/
def Obligations.BlockStreamsIn128Steps : Prop :=
  ∀ s : State, s.Acts .s7 → s.line = .up → s.snd.blkValid = true → s.snd.j = 0 →
    Host.Core.run core 128 s = .next { s with
      trace := s.trace ++ (s.blk.toList.map fun b => [.delay s.cfg.byteDelay, .tx b]).flatten.drop 1
      snd := { s.snd with j := 128 }
      ctl := { s.ctl with st := .n8, ph := .act } }

/-- R148, R228, R122, R140: from R7 with j = 0 and acc = 0, 128 engine turns take exactly the next 128 bytes of the
queue into the block, whatever they are, leave their XOR in acc, and lead to R8. -/
def Obligations.BlockReceivedIn128Steps : Prop :=
  ∀ (s : State) (d : Vector Byte 128) (rest : List Byte), s.Awaits .r7 → s.inputs = [] → s.line ≠ .failed →
    s.rcv.j = 0 → s.rcv.acc = 0 → s.rxq = d.toList ++ rest →
    Host.Core.run core 128 s = .next { s with
      rxq := rest, blk := d, rcv := { s.rcv with j := 128, acc := xorChecksum d }
      ctl := { s.ctl with st := .n8, ph := .wait, tmr := 0, tlim := 2000 } }

/-! ### Two endpoints -/

/-- R278, R279, R280, R73: on the ideal line a step of one endpoint appends exactly the bytes it transmits, in order,
to the other's queue, and changes nothing else of the other. -/
def Obligations.IdealLineDeliversInOrder : Prop :=
  (∀ (l : Link) (a' : State), step l.a = .next a' →
    ∃ sent, txBytes a'.trace = txBytes l.a.trace ++ sent ∧
      l.move (.stepA []) = .next { a := a', b := { l.b with rxq := l.b.rxq ++ sent } }) ∧
  ∀ (l : Link) (b' : State), step l.b = .next b' →
    ∃ sent, txBytes b'.trace = txBytes l.b.trace ++ sent ∧
      l.move (.stepB []) = .next { a := { l.a with rxq := l.a.rxq ++ sent }, b := b' }
end

