-- ==== Sys2Proof/Laws/State.lean ====
section
/-! SUPPORT. The named updates of the state, field by field: one lemma per field per update, so that no proof unfolds
a record update. -/

namespace Sys2Proof.Machine

variable (s : State)

/-! `State.emit` -/

@[simp] theorem State.emit_ctl (o : Output) : (s.emit o).ctl = s.ctl := rfl
@[simp] theorem State.emit_snd (o : Output) : (s.emit o).snd = s.snd := rfl
@[simp] theorem State.emit_rcv (o : Output) : (s.emit o).rcv = s.rcv := rfl
@[simp] theorem State.emit_name (o : Output) : (s.emit o).name = s.name := rfl
@[simp] theorem State.emit_blk (o : Output) : (s.emit o).blk = s.blk := rfl
@[simp] theorem State.emit_cfg (o : Output) : (s.emit o).cfg = s.cfg := rfl
@[simp] theorem State.emit_rxq (o : Output) : (s.emit o).rxq = s.rxq := rfl
@[simp] theorem State.emit_line (o : Output) : (s.emit o).line = s.line := rfl
@[simp] theorem State.emit_files (o : Output) : (s.emit o).files = s.files := rfl
@[simp] theorem State.emit_trace (o : Output) : (s.emit o).trace = s.trace ++ [o] := rfl
@[simp] theorem State.emit_answers (o : Output) : (s.emit o).answers = s.answers := rfl
@[simp] theorem State.emit_draws (o : Output) : (s.emit o).draws = s.draws := rfl
@[simp] theorem State.emit_inputs (o : Output) : (s.emit o).inputs = s.inputs := rfl
@[simp] theorem State.emit_stuck (o : Output) : (s.emit o).stuck = s.stuck := rfl

/-! `State.goTo` -/

@[simp] theorem State.goTo_ctl (st : St) : (s.goTo st).ctl = { s.ctl with st := st, ph := .act } := rfl
@[simp] theorem State.goTo_snd (st : St) : (s.goTo st).snd = s.snd := rfl
@[simp] theorem State.goTo_rcv (st : St) : (s.goTo st).rcv = s.rcv := rfl
@[simp] theorem State.goTo_name (st : St) : (s.goTo st).name = s.name := rfl
@[simp] theorem State.goTo_blk (st : St) : (s.goTo st).blk = s.blk := rfl
@[simp] theorem State.goTo_cfg (st : St) : (s.goTo st).cfg = s.cfg := rfl
@[simp] theorem State.goTo_rxq (st : St) : (s.goTo st).rxq = s.rxq := rfl
@[simp] theorem State.goTo_line (st : St) : (s.goTo st).line = s.line := rfl
@[simp] theorem State.goTo_files (st : St) : (s.goTo st).files = s.files := rfl
@[simp] theorem State.goTo_trace (st : St) : (s.goTo st).trace = s.trace := rfl
@[simp] theorem State.goTo_answers (st : St) : (s.goTo st).answers = s.answers := rfl
@[simp] theorem State.goTo_draws (st : St) : (s.goTo st).draws = s.draws := rfl
@[simp] theorem State.goTo_inputs (st : St) : (s.goTo st).inputs = s.inputs := rfl
@[simp] theorem State.goTo_stuck (st : St) : (s.goTo st).stuck = s.stuck := rfl

/-! `State.await` -/

@[simp] theorem State.await_ctl (l : BitVec 16) :
    (s.await l).ctl = { s.ctl with ph := .wait, tmr := 0, tlim := l } := rfl
@[simp] theorem State.await_snd (l : BitVec 16) : (s.await l).snd = s.snd := rfl
@[simp] theorem State.await_rcv (l : BitVec 16) : (s.await l).rcv = s.rcv := rfl
@[simp] theorem State.await_name (l : BitVec 16) : (s.await l).name = s.name := rfl
@[simp] theorem State.await_blk (l : BitVec 16) : (s.await l).blk = s.blk := rfl
@[simp] theorem State.await_cfg (l : BitVec 16) : (s.await l).cfg = s.cfg := rfl
@[simp] theorem State.await_rxq (l : BitVec 16) : (s.await l).rxq = s.rxq := rfl
@[simp] theorem State.await_line (l : BitVec 16) : (s.await l).line = s.line := rfl
@[simp] theorem State.await_files (l : BitVec 16) : (s.await l).files = s.files := rfl
@[simp] theorem State.await_trace (l : BitVec 16) : (s.await l).trace = s.trace := rfl
@[simp] theorem State.await_answers (l : BitVec 16) : (s.await l).answers = s.answers := rfl
@[simp] theorem State.await_draws (l : BitVec 16) : (s.await l).draws = s.draws := rfl
@[simp] theorem State.await_inputs (l : BitVec 16) : (s.await l).inputs = s.inputs := rfl
@[simp] theorem State.await_stuck (l : BitVec 16) : (s.await l).stuck = s.stuck := rfl

/-! `State.enter` -/

@[simp] theorem State.enter_ctl (st : St) :
    (s.enter st).ctl = { s.ctl with st := st, ph := .wait, tmr := 0, tlim := receiverLimit st } := rfl
@[simp] theorem State.enter_snd (st : St) : (s.enter st).snd = s.snd := rfl
@[simp] theorem State.enter_rcv (st : St) : (s.enter st).rcv = s.rcv := rfl
@[simp] theorem State.enter_name (st : St) : (s.enter st).name = s.name := rfl
@[simp] theorem State.enter_blk (st : St) : (s.enter st).blk = s.blk := rfl
@[simp] theorem State.enter_cfg (st : St) : (s.enter st).cfg = s.cfg := rfl
@[simp] theorem State.enter_rxq (st : St) : (s.enter st).rxq = s.rxq := rfl
@[simp] theorem State.enter_line (st : St) : (s.enter st).line = s.line := rfl
@[simp] theorem State.enter_files (st : St) : (s.enter st).files = s.files := rfl
@[simp] theorem State.enter_trace (st : St) : (s.enter st).trace = s.trace := rfl
@[simp] theorem State.enter_answers (st : St) : (s.enter st).answers = s.answers := rfl
@[simp] theorem State.enter_draws (st : St) : (s.enter st).draws = s.draws := rfl
@[simp] theorem State.enter_inputs (st : St) : (s.enter st).inputs = s.inputs := rfl
@[simp] theorem State.enter_stuck (st : St) : (s.enter st).stuck = s.stuck := rfl

/-! `State.finish` -/

@[simp] theorem State.finish_ctl : s.finish.ctl = { s.ctl with done := true, busy := false, st := .done } := rfl
@[simp] theorem State.finish_snd : s.finish.snd = s.snd := rfl
@[simp] theorem State.finish_rcv : s.finish.rcv = s.rcv := rfl
@[simp] theorem State.finish_name : s.finish.name = s.name := rfl
@[simp] theorem State.finish_blk : s.finish.blk = s.blk := rfl
@[simp] theorem State.finish_cfg : s.finish.cfg = s.cfg := rfl
@[simp] theorem State.finish_rxq : s.finish.rxq = s.rxq := rfl
@[simp] theorem State.finish_line : s.finish.line = s.line := rfl
@[simp] theorem State.finish_files : s.finish.files = s.files := rfl
@[simp] theorem State.finish_trace : s.finish.trace = s.trace := rfl
@[simp] theorem State.finish_answers : s.finish.answers = s.answers := rfl
@[simp] theorem State.finish_draws : s.finish.draws = s.draws := rfl
@[simp] theorem State.finish_inputs : s.finish.inputs = s.inputs := rfl
@[simp] theorem State.finish_stuck : s.finish.stuck = s.stuck := rfl

/-! `State.requeue` -/

@[simp] theorem State.requeue_ctl (b : Byte) : (s.requeue b).ctl = s.ctl := rfl
@[simp] theorem State.requeue_snd (b : Byte) : (s.requeue b).snd = s.snd := rfl
@[simp] theorem State.requeue_rcv (b : Byte) : (s.requeue b).rcv = s.rcv := rfl
@[simp] theorem State.requeue_name (b : Byte) : (s.requeue b).name = s.name := rfl
@[simp] theorem State.requeue_blk (b : Byte) : (s.requeue b).blk = s.blk := rfl
@[simp] theorem State.requeue_cfg (b : Byte) : (s.requeue b).cfg = s.cfg := rfl
@[simp] theorem State.requeue_rxq (b : Byte) : (s.requeue b).rxq = b :: s.rxq := rfl
@[simp] theorem State.requeue_line (b : Byte) : (s.requeue b).line = s.line := rfl
@[simp] theorem State.requeue_files (b : Byte) : (s.requeue b).files = s.files := rfl
@[simp] theorem State.requeue_trace (b : Byte) : (s.requeue b).trace = s.trace := rfl
@[simp] theorem State.requeue_answers (b : Byte) : (s.requeue b).answers = s.answers := rfl
@[simp] theorem State.requeue_draws (b : Byte) : (s.requeue b).draws = s.draws := rfl
@[simp] theorem State.requeue_inputs (b : Byte) : (s.requeue b).inputs = s.inputs := rfl
@[simp] theorem State.requeue_stuck (b : Byte) : (s.requeue b).stuck = s.stuck := rfl

/-! `State.acknowledged` -/

@[simp] theorem State.acknowledged_ctl : s.acknowledged.ctl = { s.ctl with st := .n6, ph := .act } := rfl
@[simp] theorem State.acknowledged_snd :
    s.acknowledged.snd = { s.snd with
      off := s.snd.off + s.snd.blen.zeroExtend 32, blkValid := false, nblk := s.snd.nblk + 1, retry := 0 } := rfl
@[simp] theorem State.acknowledged_rcv : s.acknowledged.rcv = s.rcv := rfl
@[simp] theorem State.acknowledged_name : s.acknowledged.name = s.name := rfl
@[simp] theorem State.acknowledged_blk : s.acknowledged.blk = s.blk := rfl
@[simp] theorem State.acknowledged_cfg : s.acknowledged.cfg = s.cfg := rfl
@[simp] theorem State.acknowledged_rxq : s.acknowledged.rxq = s.rxq := rfl
@[simp] theorem State.acknowledged_line : s.acknowledged.line = s.line := rfl
@[simp] theorem State.acknowledged_files : s.acknowledged.files = s.files := rfl
@[simp] theorem State.acknowledged_trace : s.acknowledged.trace = s.trace := rfl
@[simp] theorem State.acknowledged_answers : s.acknowledged.answers = s.answers := rfl
@[simp] theorem State.acknowledged_draws : s.acknowledged.draws = s.draws := rfl
@[simp] theorem State.acknowledged_inputs : s.acknowledged.inputs = s.inputs := rfl
@[simp] theorem State.acknowledged_stuck : s.acknowledged.stuck = s.stuck := rfl

/-! `State.storeName` -/

@[simp] theorem State.storeName_ctl (b : Byte) : (s.storeName b).ctl = s.ctl := rfl
@[simp] theorem State.storeName_snd (b : Byte) : (s.storeName b).snd = s.snd := rfl
@[simp] theorem State.storeName_rcv (b : Byte) : (s.storeName b).rcv = s.rcv := rfl
@[simp] theorem State.storeName_name (b : Byte) : (s.storeName b).name = s.name.setIfInBounds s.rcv.i.toNat b := rfl
@[simp] theorem State.storeName_blk (b : Byte) : (s.storeName b).blk = s.blk := rfl
@[simp] theorem State.storeName_cfg (b : Byte) : (s.storeName b).cfg = s.cfg := rfl
@[simp] theorem State.storeName_rxq (b : Byte) : (s.storeName b).rxq = s.rxq := rfl
@[simp] theorem State.storeName_line (b : Byte) : (s.storeName b).line = s.line := rfl
@[simp] theorem State.storeName_files (b : Byte) : (s.storeName b).files = s.files := rfl
@[simp] theorem State.storeName_trace (b : Byte) : (s.storeName b).trace = s.trace := rfl
@[simp] theorem State.storeName_answers (b : Byte) : (s.storeName b).answers = s.answers := rfl
@[simp] theorem State.storeName_draws (b : Byte) : (s.storeName b).draws = s.draws := rfl
@[simp] theorem State.storeName_inputs (b : Byte) : (s.storeName b).inputs = s.inputs := rfl
@[simp] theorem State.storeName_stuck (b : Byte) : (s.storeName b).stuck = s.stuck := rfl

/-! `State.storePayload` -/

@[simp] theorem State.storePayload_ctl (b : Byte) : (s.storePayload b).ctl = s.ctl := rfl
@[simp] theorem State.storePayload_snd (b : Byte) : (s.storePayload b).snd = s.snd := rfl
@[simp] theorem State.storePayload_rcv (b : Byte) :
    (s.storePayload b).rcv = { s.rcv with acc := s.rcv.acc ^^^ b, j := s.rcv.j + 1 } := rfl
@[simp] theorem State.storePayload_name (b : Byte) : (s.storePayload b).name = s.name := rfl
@[simp] theorem State.storePayload_blk (b : Byte) :
    (s.storePayload b).blk = s.blk.setIfInBounds s.rcv.j.toNat b := rfl
@[simp] theorem State.storePayload_cfg (b : Byte) : (s.storePayload b).cfg = s.cfg := rfl
@[simp] theorem State.storePayload_rxq (b : Byte) : (s.storePayload b).rxq = s.rxq := rfl
@[simp] theorem State.storePayload_line (b : Byte) : (s.storePayload b).line = s.line := rfl
@[simp] theorem State.storePayload_files (b : Byte) : (s.storePayload b).files = s.files := rfl
@[simp] theorem State.storePayload_trace (b : Byte) : (s.storePayload b).trace = s.trace := rfl
@[simp] theorem State.storePayload_answers (b : Byte) : (s.storePayload b).answers = s.answers := rfl
@[simp] theorem State.storePayload_draws (b : Byte) : (s.storePayload b).draws = s.draws := rfl
@[simp] theorem State.storePayload_inputs (b : Byte) : (s.storePayload b).inputs = s.inputs := rfl
@[simp] theorem State.storePayload_stuck (b : Byte) : (s.storePayload b).stuck = s.stuck := rfl

/-! `State.assembled` -/

@[simp] theorem State.assembled_ctl (bytes : List Byte) : (s.assembled bytes).ctl = s.ctl := rfl
@[simp] theorem State.assembled_snd (bytes : List Byte) :
    (s.assembled bytes).snd = { s.snd with
      blen := BitVec.ofNat 8 bytes.length, blkValid := true, chk := xorChecksum (padBlock bytes) } := rfl
@[simp] theorem State.assembled_rcv (bytes : List Byte) : (s.assembled bytes).rcv = s.rcv := rfl
@[simp] theorem State.assembled_name (bytes : List Byte) : (s.assembled bytes).name = s.name := rfl
@[simp] theorem State.assembled_blk (bytes : List Byte) : (s.assembled bytes).blk = padBlock bytes := rfl
@[simp] theorem State.assembled_cfg (bytes : List Byte) : (s.assembled bytes).cfg = s.cfg := rfl
@[simp] theorem State.assembled_rxq (bytes : List Byte) : (s.assembled bytes).rxq = s.rxq := rfl
@[simp] theorem State.assembled_line (bytes : List Byte) : (s.assembled bytes).line = s.line := rfl
@[simp] theorem State.assembled_files (bytes : List Byte) : (s.assembled bytes).files = s.files := rfl
@[simp] theorem State.assembled_trace (bytes : List Byte) : (s.assembled bytes).trace = s.trace := rfl
@[simp] theorem State.assembled_answers (bytes : List Byte) : (s.assembled bytes).answers = s.answers := rfl
@[simp] theorem State.assembled_draws (bytes : List Byte) : (s.assembled bytes).draws = s.draws := rfl
@[simp] theorem State.assembled_inputs (bytes : List Byte) : (s.assembled bytes).inputs = s.inputs := rfl
@[simp] theorem State.assembled_stuck (bytes : List Byte) : (s.assembled bytes).stuck = s.stuck := rfl

/-! `State.openedFile` -/

@[simp] theorem State.openedFile_ctl (f : HostFile) : (s.openedFile f).ctl = s.ctl := rfl
@[simp] theorem State.openedFile_snd (f : HostFile) :
    (s.openedFile f).snd = { s.snd with
      srcOpen := true, len := BitVec.ofNat 32 f.data.length, off := 0, blkValid := false, retry := 0, nblk := 0 } := rfl
@[simp] theorem State.openedFile_rcv (f : HostFile) : (s.openedFile f).rcv = s.rcv := rfl
@[simp] theorem State.openedFile_name (f : HostFile) : (s.openedFile f).name = s.name := rfl
@[simp] theorem State.openedFile_blk (f : HostFile) : (s.openedFile f).blk = s.blk := rfl
@[simp] theorem State.openedFile_cfg (f : HostFile) : (s.openedFile f).cfg = s.cfg := rfl
@[simp] theorem State.openedFile_rxq (f : HostFile) : (s.openedFile f).rxq = s.rxq := rfl
@[simp] theorem State.openedFile_line (f : HostFile) : (s.openedFile f).line = s.line := rfl
@[simp] theorem State.openedFile_files (f : HostFile) : (s.openedFile f).files = s.files := rfl
@[simp] theorem State.openedFile_trace (f : HostFile) : (s.openedFile f).trace = s.trace := rfl
@[simp] theorem State.openedFile_answers (f : HostFile) : (s.openedFile f).answers = s.answers := rfl
@[simp] theorem State.openedFile_draws (f : HostFile) : (s.openedFile f).draws = s.draws := rfl
@[simp] theorem State.openedFile_inputs (f : HostFile) : (s.openedFile f).inputs = s.inputs := rfl
@[simp] theorem State.openedFile_stuck (f : HostFile) : (s.openedFile f).stuck = s.stuck := rfl

/-! `State.takeAnswer` and `State.hostCall` (R273): the answer apart, only the answers, the counter and the outputs change. -/

@[simp] theorem State.takeAnswer_ctl : s.takeAnswer.2.ctl = s.ctl := by unfold State.takeAnswer; split <;> rfl
@[simp] theorem State.takeAnswer_snd : s.takeAnswer.2.snd = s.snd := by unfold State.takeAnswer; split <;> rfl
@[simp] theorem State.takeAnswer_rcv : s.takeAnswer.2.rcv = s.rcv := by unfold State.takeAnswer; split <;> rfl
@[simp] theorem State.takeAnswer_name : s.takeAnswer.2.name = s.name := by unfold State.takeAnswer; split <;> rfl
@[simp] theorem State.takeAnswer_blk : s.takeAnswer.2.blk = s.blk := by unfold State.takeAnswer; split <;> rfl
@[simp] theorem State.takeAnswer_cfg : s.takeAnswer.2.cfg = s.cfg := by unfold State.takeAnswer; split <;> rfl
@[simp] theorem State.takeAnswer_rxq : s.takeAnswer.2.rxq = s.rxq := by unfold State.takeAnswer; split <;> rfl
@[simp] theorem State.takeAnswer_line : s.takeAnswer.2.line = s.line := by unfold State.takeAnswer; split <;> rfl
@[simp] theorem State.takeAnswer_files : s.takeAnswer.2.files = s.files := by unfold State.takeAnswer; split <;> rfl
@[simp] theorem State.takeAnswer_trace : s.takeAnswer.2.trace = s.trace := by unfold State.takeAnswer; split <;> rfl
@[simp] theorem State.takeAnswer_inputs : s.takeAnswer.2.inputs = s.inputs := by unfold State.takeAnswer; split <;> rfl
@[simp] theorem State.takeAnswer_stuck : s.takeAnswer.2.stuck = s.stuck := by unfold State.takeAnswer; split <;> rfl

@[simp] theorem State.hostCall_ctl (op : HostOp) : (s.hostCall op).2.ctl = s.ctl := by simp [State.hostCall]
@[simp] theorem State.hostCall_snd (op : HostOp) : (s.hostCall op).2.snd = s.snd := by simp [State.hostCall]
@[simp] theorem State.hostCall_rcv (op : HostOp) : (s.hostCall op).2.rcv = s.rcv := by simp [State.hostCall]
@[simp] theorem State.hostCall_name (op : HostOp) : (s.hostCall op).2.name = s.name := by simp [State.hostCall]
@[simp] theorem State.hostCall_blk (op : HostOp) : (s.hostCall op).2.blk = s.blk := by simp [State.hostCall]
@[simp] theorem State.hostCall_cfg (op : HostOp) : (s.hostCall op).2.cfg = s.cfg := by simp [State.hostCall]
@[simp] theorem State.hostCall_rxq (op : HostOp) : (s.hostCall op).2.rxq = s.rxq := by simp [State.hostCall]
@[simp] theorem State.hostCall_line (op : HostOp) : (s.hostCall op).2.line = s.line := by simp [State.hostCall]
@[simp] theorem State.hostCall_files (op : HostOp) : (s.hostCall op).2.files = s.files := by simp [State.hostCall]
@[simp] theorem State.hostCall_inputs (op : HostOp) : (s.hostCall op).2.inputs = s.inputs := by simp [State.hostCall]
@[simp] theorem State.hostCall_stuck (op : HostOp) : (s.hostCall op).2.stuck = s.stuck := by simp [State.hostCall]
@[simp] theorem State.hostCall_trace (op : HostOp) :
    (s.hostCall op).2.trace = s.trace ++ [.host op (s.hostCall op).1] := by simp [State.hostCall]

/-! `State.abort` and `State.releaseHandles` (R310). -/

@[simp] theorem State.releaseHandles_ctl : s.releaseHandles.ctl = s.ctl := by
  unfold State.releaseHandles; split <;> split <;> simp
@[simp] theorem State.releaseHandles_name : s.releaseHandles.name = s.name := by
  unfold State.releaseHandles; split <;> split <;> simp
@[simp] theorem State.releaseHandles_blk : s.releaseHandles.blk = s.blk := by
  unfold State.releaseHandles; split <;> split <;> simp
@[simp] theorem State.releaseHandles_cfg : s.releaseHandles.cfg = s.cfg := by
  unfold State.releaseHandles; split <;> split <;> simp
@[simp] theorem State.releaseHandles_rxq : s.releaseHandles.rxq = s.rxq := by
  unfold State.releaseHandles; split <;> split <;> simp
@[simp] theorem State.releaseHandles_line : s.releaseHandles.line = s.line := by
  unfold State.releaseHandles; split <;> split <;> simp
@[simp] theorem State.releaseHandles_files : s.releaseHandles.files = s.files := by
  unfold State.releaseHandles; split <;> split <;> simp
@[simp] theorem State.releaseHandles_inputs : s.releaseHandles.inputs = s.inputs := by
  unfold State.releaseHandles; split <;> split <;> simp
@[simp] theorem State.releaseHandles_stuck : s.releaseHandles.stuck = s.stuck := by
  unfold State.releaseHandles; split <;> split <;> simp

/-- R310, R311: an abort leaves the handle of the session's role closed, and the other sender registers alone. -/
theorem State.releaseHandles_snd : s.releaseHandles.snd =
    { s.snd with srcOpen := s.snd.srcOpen && s.ctl.roleAct = .receiver } := by
  unfold State.releaseHandles
  cases hr : s.ctl.roleAct <;> cases ho : s.snd.srcOpen <;> cases hk : s.rcv.snkOpen <;> simp <;>
    rw [← ho]

/-- R310, R311: likewise for the receiver registers. -/
theorem State.releaseHandles_rcv : s.releaseHandles.rcv =
    { s.rcv with snkOpen := s.rcv.snkOpen && s.ctl.roleAct = .sender } := by
  unfold State.releaseHandles
  cases hr : s.ctl.roleAct <;> cases ho : s.rcv.snkOpen <;> cases hk : s.snd.srcOpen <;> simp <;>
    rw [← ho]

@[simp] theorem State.abort_ctl (c : Cause) : (s.abort c).ctl = s.ctl.abort c := rfl
@[simp] theorem State.abort_stuck (c : Cause) : (s.abort c).stuck = none := rfl
@[simp] theorem State.abort_snd (c : Cause) : (s.abort c).snd = s.releaseHandles.snd := rfl
@[simp] theorem State.abort_rcv (c : Cause) : (s.abort c).rcv = s.releaseHandles.rcv := rfl
@[simp] theorem State.abort_name (c : Cause) : (s.abort c).name = s.name := by simp [State.abort]
@[simp] theorem State.abort_blk (c : Cause) : (s.abort c).blk = s.blk := by simp [State.abort]
@[simp] theorem State.abort_cfg (c : Cause) : (s.abort c).cfg = s.cfg := by simp [State.abort]
@[simp] theorem State.abort_rxq (c : Cause) : (s.abort c).rxq = s.rxq := by simp [State.abort]
@[simp] theorem State.abort_line (c : Cause) : (s.abort c).line = s.line := by simp [State.abort]
@[simp] theorem State.abort_files (c : Cause) : (s.abort c).files = s.files := by simp [State.abort]
@[simp] theorem State.abort_inputs (c : Cause) : (s.abort c).inputs = s.inputs := by simp [State.abort]

/-! `stuckState` (log 13). -/

@[simp] theorem stuckState_ctl (t : State) : (stuckState s t).ctl = s.ctl := rfl
@[simp] theorem stuckState_snd (t : State) : (stuckState s t).snd = s.snd := rfl
@[simp] theorem stuckState_rcv (t : State) : (stuckState s t).rcv = s.rcv := rfl
@[simp] theorem stuckState_name (t : State) : (stuckState s t).name = s.name := rfl
@[simp] theorem stuckState_blk (t : State) : (stuckState s t).blk = s.blk := rfl
@[simp] theorem stuckState_cfg (t : State) : (stuckState s t).cfg = s.cfg := rfl
@[simp] theorem stuckState_rxq (t : State) : (stuckState s t).rxq = s.rxq := rfl
@[simp] theorem stuckState_line (t : State) : (stuckState s t).line = t.line := rfl
@[simp] theorem stuckState_files (t : State) : (stuckState s t).files = s.files := rfl
@[simp] theorem stuckState_trace (t : State) : (stuckState s t).trace = t.trace := rfl
@[simp] theorem stuckState_answers (t : State) : (stuckState s t).answers = t.answers := rfl
@[simp] theorem stuckState_draws (t : State) : (stuckState s t).draws = t.draws := rfl
@[simp] theorem stuckState_inputs (t : State) : (stuckState s t).inputs = s.inputs := rfl
@[simp] theorem stuckState_stuck (t : State) : (stuckState s t).stuck = some t.registers := rfl

/-! The position (R22): it depends on `st` and `ROLE_ACT` alone. -/

theorem State.pos_congr (t : State) (hs : s.ctl.st = t.ctl.st) (hr : s.ctl.roleAct = t.ctl.roleAct) :
    s.pos = t.pos := by
  simp [State.pos, hs, hr]

@[simp] theorem State.pos_emit (o : Output) : (s.emit o).pos = s.pos := rfl
@[simp] theorem State.pos_await (l : BitVec 16) : (s.await l).pos = s.pos := rfl
@[simp] theorem State.pos_finish : s.finish.pos = .done := rfl
@[simp] theorem State.pos_abort (c : Cause) : (s.abort c).pos = .aborted := rfl
@[simp] theorem State.pos_requeue (b : Byte) : (s.requeue b).pos = s.pos := rfl
@[simp] theorem State.pos_hostCall (op : HostOp) : (s.hostCall op).2.pos = s.pos := by simp [State.pos]

end Sys2Proof.Machine
end

