-- ==== Sys2Proof/Laws/Ops.lean ====
section
/-! SUPPORT. One lemma per shared operation that says everything it can do: the end of a step, the transmission of a
byte, the host call, the abort; when a state awaits a byte; and the equations of the step. Later proofs cite these and
do not unfold the operations. -/

namespace Sys2Proof.Machine

/-! ### How far a step has come -/

@[simp] theorem Flow.andThen_go (s : State) (f : State → Flow) : (Flow.go s).andThen f = f s := rfl
@[simp] theorem Flow.andThen_ended (s : State) (f : State → Flow) : (Flow.ended s).andThen f = .ended s := rfl
@[simp] theorem Flow.andThen_stuck (s : State) (f : State → Flow) : (Flow.stuck s).andThen f = .stuck s := rfl
@[simp] theorem Flow.andThen_fault (e : Fault) (f : State → Flow) : (Flow.fault e).andThen f = .fault e := rfl
@[simp] theorem Flow.andThen_refused (r : Refusal) (f : State → Flow) : (Flow.refused r).andThen f = .refused r := rfl
@[simp] theorem Flow.outcome_go (b s : State) : (Flow.go s).outcome b = .next s := rfl
@[simp] theorem Flow.outcome_ended (b s : State) : (Flow.ended s).outcome b = .next s := rfl
@[simp] theorem Flow.outcome_stuck (b s : State) : (Flow.stuck s).outcome b = .next (stuckState b s) := rfl
@[simp] theorem Flow.outcome_fault (b : State) (f : Fault) : (Flow.fault f).outcome b = .fault f := rfl
@[simp] theorem Flow.outcome_refused (b : State) (r : Refusal) : (Flow.refused r).outcome b = .refused r := rfl

/-- A step answers a next state when it goes on to its end, has ended, or is stuck. -/
theorem Flow.outcome_eq_next {b t : State} {m : Flow} (h : m.outcome b = .next t) :
    m = .go t ∨ m = .ended t ∨ ∃ u, m = .stuck u ∧ t = stuckState b u := by
  cases m with
  | go s => simp only [Flow.outcome_go, Host.Outcome.next.injEq] at h; exact .inl (h ▸ rfl)
  | ended s => simp only [Flow.outcome_ended, Host.Outcome.next.injEq] at h; exact .inr (.inl (h ▸ rfl))
  | stuck u => simp only [Flow.outcome_stuck, Host.Outcome.next.injEq] at h; exact .inr (.inr ⟨u, rfl, h.symm⟩)
  | fault f => simp at h
  | refused r => simp at h

/-! ### Transmission (R66) -/

/-- The state after an accepted byte. -/
theorem State.tx_of_accepts {s : State} (h : s.line.accepts = true) (b : Byte) :
    s.tx b = .go { s with trace := s.trace ++ [.tx b], line := s.line.afterByte } := by
  cases s with
  | mk ctl snd rcv name blk cfg rxq line files trace answers draws inputs stuck =>
    cases line with
    | up => rfl
    | failsAfter n => cases n with
      | zero => cases h
      | succ n => rfl
    | stallsAfter n => cases n with
      | zero => cases h
      | succ n => rfl
    | failed => cases h

/-- Everything `tx(b)` can do: the line accepts the byte, the step aborts with LINE_IO on a line that has failed, or the
step is stuck. -/
theorem State.tx_cases (s : State) (b : Byte) :
    (s.line.accepts = true ∧ s.tx b = .go { s with trace := s.trace ++ [.tx b], line := s.line.afterByte }) ∨
    (s.line = .failsAfter 0 ∧ s.tx b = .ended ({ s with line := .failed }.abort .lineIo)) ∨
    (s.line = .failed ∧ s.tx b = .ended (s.abort .lineIo)) ∨
    (s.line = .stallsAfter 0 ∧ s.tx b = .stuck s) := by
  cases hl : s.line with
  | up => exact .inl ⟨rfl, by simpa [hl] using State.tx_of_accepts (s := s) (by rw [hl]; rfl) b⟩
  | failsAfter n => cases n with
    | zero => exact .inr (.inl ⟨rfl, by simp [State.tx, hl]⟩)
    | succ n => exact .inl ⟨rfl, by simpa [hl] using State.tx_of_accepts (s := s) (by rw [hl]; rfl) b⟩
  | stallsAfter n => cases n with
    | zero => exact .inr (.inr (.inr ⟨rfl, by simp [State.tx, hl]⟩))
    | succ n => exact .inl ⟨rfl, by simpa [hl] using State.tx_of_accepts (s := s) (by rw [hl]; rfl) b⟩
  | failed => exact .inr (.inr (.inl ⟨rfl, by simp [State.tx, hl]⟩))

/-- How a step that began in `s` ends where its transmission from `m` is not accepted, whatever it would do after. -/
theorem State.tx_notTransmitted (s m : State) (b : Byte) (next : State → Flow) :
    NotTransmitted s m (((m.tx b).andThen next).outcome s) := by
  constructor <;> intro h <;> simp [State.tx, h, stuckState, State.registers]

/-- Everything a change of the line's condition can do (R308, log 27). -/
theorem setLine_cases (l : Line) (s : State) :
    setLine l s = s ∨ (¬ (s.ctl.busy = true ∧ s.line = .failed) ∧ setLine l s = { s with line := l }) := by
  unfold setLine
  split
  · exact .inl rfl
  · next h => exact .inr ⟨fun hf => h (Or.inr hf), rfl⟩

/-- A reply on a line that accepts it. -/
theorem State.reply_of_accepts {s : State} (h : s.line.accepts = true) (b : Byte) (st : St) :
    s.reply b st =
      .go (State.enter { s with trace := s.trace ++ [Output.tx b], line := s.line.afterByte } st) := by
  simp [State.reply, State.tx_of_accepts h]

/-! ### When a byte is awaited (R23) -/

/-- A state that awaits a byte is not stuck and stands in a state of some decoder. -/
theorem State.listening_iff (s : State) :
    s.listening = true ↔
      s.stuck = none ∧ s.pos.reading ≠ .nothing ∧ (s.pos.isSender = true → s.ctl.ph = .wait) := by
  unfold State.listening
  cases s.stuck <;> cases s.pos <;> simp [Pos.reading, Pos.isSender]

/-- A state that awaits a byte is in a session. -/
theorem State.inSession_of_listening {s : State} (h : s.listening = true) : s.pos.inSession = true := by
  have := (State.listening_iff s).1 h
  revert this
  cases s.pos <;> simp [Pos.reading, Pos.inSession, Pos.isSender, Pos.isReceiver]

theorem receive_of_listening {s : State} (h : s.listening = true) (b : Byte) :
    receive b s = (respond b s).outcome s := by simp [receive, h]

theorem receive_of_not_listening {s : State} (h : s.listening = false) (b : Byte) :
    receive b s = .next { s with rxq := b :: s.rxq } := by simp [receive, h, State.requeue]

/-! ### The step -/

theorem step_nil {s : State} (h : s.inputs = []) : step s = engineStep s := by simp [step, move, h]

theorem step_cons {s : State} {m : Input} {more : List Input} (h : s.inputs = m :: more) :
    step s = applyInput m { s with inputs := more } := by simp [step, move, h]

/-- The engine's turn in a session, with no transmission stuck. -/
theorem engineStep_of_inSession {s : State} (h : s.pos.inSession = true) (hs : s.stuck = none) :
    engineStep s = busyStep s := by
  unfold engineStep
  cases hp : s.pos <;> simp [hp, hs, Pos.inSession, Pos.isSender, Pos.isReceiver] at h ⊢

/-- The engine's turn in a session, stuck in a transmission. -/
theorem engineStep_of_stuck {s : State} {p : Pending} (h : s.pos.inSession = true) (hs : s.stuck = some p) :
    engineStep s = stuckStep p s := by
  unfold engineStep
  cases hp : s.pos <;> simp [hp, hs, Pos.inSession, Pos.isSender, Pos.isReceiver] at h ⊢

/-- The engine's turn in a state that awaits a byte, the line not failed. -/
theorem engineStep_of_listening {s : State} (h : s.listening = true) (hl : s.line ≠ .failed) :
    engineStep s = waitStep s := by
  rw [engineStep_of_inSession (State.inSession_of_listening h) ((State.listening_iff s).1 h).1]
  simp [busyStep, hl, h]

/-- The engine's turn in an ACT phase, the line not failed and no transmission stuck. -/
theorem engineStep_of_acting {s : State} (hp : s.pos.inSession = true) (h : s.listening = false)
    (hs : s.stuck = none) (hl : s.line ≠ .failed) : engineStep s = (actFlow s).outcome s := by
  rw [engineStep_of_inSession hp hs]
  simp [busyStep, hl, h, actStep]

/-- The engine's turn outside a session. -/
theorem engineStep_quiescent {s : State} (h : s.pos = .idle ∨ s.pos = .done ∨ s.pos = .aborted) :
    engineStep s = .next s := by
  unfold engineStep
  rcases h with h | h | h <;> simp [h]

/-- The step of a state whose ACT step is next. -/
theorem step_of_acts {s : State} {p : Pos} (h : s.Acts p) (hp : p.inSession = true) :
    step s = (actFlow s).outcome s := by
  obtain ⟨h1, h2, h3, h4, h5⟩ := h
  rw [step_nil h4, engineStep_of_acting (by rw [h1]; exact hp) h2 h3 h5]

/-! ### The host's answers (R273) -/

/-- What a host operation leaves: all but the trace, the listed answers and the counter of free ones. -/
theorem State.hostCall_keeps {s t : State} {op : HostOp} {a : Answer} (h : s.hostCall op = (a, t)) :
    t.ctl = s.ctl ∧ t.snd = s.snd ∧ t.rcv = s.rcv ∧ t.name = s.name ∧ t.blk = s.blk ∧ t.cfg = s.cfg ∧
    t.rxq = s.rxq ∧ t.line = s.line ∧ t.files = s.files ∧ t.trace = s.trace ++ [.host op a] ∧
    t.inputs = s.inputs ∧ t.stuck = s.stuck := by
  have ht : t = (s.hostCall op).2 := by rw [h]
  have ha : a = (s.takeAnswer).1 := by have := congrArg Prod.fst h; exact this.symm
  subst ht; subst ha
  simp only [State.hostCall_ctl, State.hostCall_snd, State.hostCall_rcv, State.hostCall_name, State.hostCall_blk,
    State.hostCall_cfg, State.hostCall_rxq, State.hostCall_line, State.hostCall_files, State.hostCall_inputs,
    State.hostCall_stuck, and_true, true_and]
  exact State.takeAnswer_trace s ▸ rfl

/-! ### Counters that saturate (R34, R41) -/

theorem satInc_eq (v : BitVec 16) : satInc v = BitVec.ofNat 16 (min (v.toNat + 1) 0xFFFF) := by
  unfold satInc
  apply BitVec.eq_of_toNat_eq
  split
  · simp_all
  · have hne : v.toNat ≠ 65535 := fun h => by
      apply ‹¬ v = 65535#16›; exact BitVec.eq_of_toNat_eq (by simpa using h)
    have := v.isLt
    simp; omega

/-! ### Sequences -/

/-- The sink's files after one more output (R277). -/
theorem sinkFiles_append_one (tr : List Output) (o : Output) :
    sinkFiles (tr ++ [o]) = sinkAfter (sinkFiles tr) o := by simp [sinkFiles]

@[simp] theorem txBytes_nil : txBytes [] = [] := rfl

@[simp] theorem txBytes_append (a b : List Output) : txBytes (a ++ b) = txBytes a ++ txBytes b := by simp [txBytes]

@[simp] theorem txBytes_tx (b : Byte) : txBytes [.tx b] = [b] := rfl

@[simp] theorem txBytes_host (op : HostOp) (a : Answer) : txBytes [.host op a] = [] := rfl

@[simp] theorem xorAll_nil : xorAll [] = 0 := rfl

theorem xorAll_foldl (a : Byte) (l : List Byte) : l.foldl (· ^^^ ·) a = a ^^^ xorAll l := by
  induction l generalizing a with
  | nil => simp
  | cons x l ih => simp [xorAll, ih (a ^^^ x), ih x, BitVec.xor_assoc]

@[simp] theorem xorAll_cons (x : Byte) (l : List Byte) : xorAll (x :: l) = x ^^^ xorAll l := by
  rw [xorAll, List.foldl_cons, xorAll_foldl]; simp

@[simp] theorem xorAll_append (a b : List Byte) : xorAll (a ++ b) = xorAll a ^^^ xorAll b := by
  induction a with
  | nil => simp
  | cons x a ih => simp [ih, BitVec.xor_assoc]

@[simp] theorem padBlock_toList (bytes : List Byte) :
    (padBlock bytes).toList = (bytes ++ List.replicate 128 padByte).take 128 := by simp [padBlock, Vector.toList]

theorem blockBytes_le (s : Snd) : blockBytes s ≤ 128 := Nat.min_le_left _ _

end Sys2Proof.Machine
end

