-- ==== Sys2Proof/Laws/PerInstr.lean ====
section
/-! SUPPORT. The family RowMatch, per instruction: the encoder writes a word of the width of the instruction's row of
spec/opcode_table.json, with the row's fixed bits (its match under its mask) and with every operand in its field. -/

namespace Sys2Proof.Laws

/-- The width of a code in bits, as the opcode table counts them. -/
def codeBits : Code → Nat
  | .line _ => 8
  | .ctrl _ => 32

/-- A code as a number, bit 0 the least significant. -/
def codeWord : Code → Nat
  | .line b => b.toNat
  | .ctrl w => w.toNat

/-- One row of spec/opcode_table.json: its width, its mask and match, and the value of its one operand field (bits 7
to 0), if it has one. -/
structure Row where
  bits : Nat
  mask : Nat
  fixed : Nat
  operand : Option Byte

/-- The row of each instruction, copied from the table. -/
def rowOf : Instr → Row
  | .stx => { bits := 8, mask := 0xFF, fixed := 0x02, operand := none }
  | .etx => { bits := 8, mask := 0xFF, fixed := 0x03, operand := none }
  | .eot => { bits := 8, mask := 0xFF, fixed := 0x04, operand := none }
  | .enq => { bits := 8, mask := 0xFF, fixed := 0x05, operand := none }
  | .bs => { bits := 8, mask := 0xFF, fixed := 0x08, operand := none }
  | .tab => { bits := 8, mask := 0xFF, fixed := 0x09, operand := none }
  | .xoff => { bits := 8, mask := 0xFF, fixed := 0x13, operand := none }
  | .symR => { bits := 8, mask := 0xFF, fixed := 0x52, operand := none }
  | .symS => { bits := 8, mask := 0xFF, fixed := 0x53, operand := none }
  | .gHandshake => { bits := 8, mask := 0xFF, fixed := 0x47, operand := none }
  | .gAck => { bits := 8, mask := 0xFF, fixed := 0x47, operand := none }
  | .symB => { bits := 8, mask := 0xFF, fixed := 0x42, operand := none }
  | .symP => { bits := 8, mask := 0xFF, fixed := 0x50, operand := none }
  | .symN => { bits := 8, mask := 0xFF, fixed := 0x4E, operand := none }
  | .symX => { bits := 8, mask := 0xFF, fixed := 0x58, operand := none }
  | .pad => { bits := 8, mask := 0xFF, fixed := 0x1A, operand := none }
  | .fnameByte d => { bits := 8, mask := 0x00, fixed := 0x00, operand := some d }
  | .payloadByte d => { bits := 8, mask := 0x00, fixed := 0x00, operand := some d }
  | .checksumByte d => { bits := 8, mask := 0x00, fixed := 0x00, operand := some d }
  | .startSend => { bits := 32, mask := 0x00000003, fixed := 0x00000001, operand := none }
  | .startRecv => { bits := 32, mask := 0x00000003, fixed := 0x00000003, operand := none }

/-- The instruction's code is a word of its row. -/
def RowMatch.Statement (i : Instr) : Prop :=
  codeBits (encode i) = (rowOf i).bits ∧
  codeWord (encode i) &&& (rowOf i).mask = (rowOf i).fixed ∧
  ∀ d ∈ (rowOf i).operand, codeWord (encode i) % 256 = d.toNat

theorem RowMatch.stx : RowMatch.Statement .stx := ⟨rfl, rfl, fun _ h => by cases h⟩
theorem RowMatch.etx : RowMatch.Statement .etx := ⟨rfl, rfl, fun _ h => by cases h⟩
theorem RowMatch.eot : RowMatch.Statement .eot := ⟨rfl, rfl, fun _ h => by cases h⟩
theorem RowMatch.enq : RowMatch.Statement .enq := ⟨rfl, rfl, fun _ h => by cases h⟩
theorem RowMatch.bs : RowMatch.Statement .bs := ⟨rfl, rfl, fun _ h => by cases h⟩
theorem RowMatch.tab : RowMatch.Statement .tab := ⟨rfl, rfl, fun _ h => by cases h⟩
theorem RowMatch.xoff : RowMatch.Statement .xoff := ⟨rfl, rfl, fun _ h => by cases h⟩
theorem RowMatch.symR : RowMatch.Statement .symR := ⟨rfl, rfl, fun _ h => by cases h⟩
theorem RowMatch.symS : RowMatch.Statement .symS := ⟨rfl, rfl, fun _ h => by cases h⟩
theorem RowMatch.gHandshake : RowMatch.Statement .gHandshake := ⟨rfl, rfl, fun _ h => by cases h⟩
theorem RowMatch.gAck : RowMatch.Statement .gAck := ⟨rfl, rfl, fun _ h => by cases h⟩
theorem RowMatch.symB : RowMatch.Statement .symB := ⟨rfl, rfl, fun _ h => by cases h⟩
theorem RowMatch.symP : RowMatch.Statement .symP := ⟨rfl, rfl, fun _ h => by cases h⟩
theorem RowMatch.symN : RowMatch.Statement .symN := ⟨rfl, rfl, fun _ h => by cases h⟩
theorem RowMatch.symX : RowMatch.Statement .symX := ⟨rfl, rfl, fun _ h => by cases h⟩
theorem RowMatch.pad : RowMatch.Statement .pad := ⟨rfl, rfl, fun _ h => by cases h⟩
theorem RowMatch.startSend : RowMatch.Statement .startSend := ⟨rfl, rfl, fun _ h => by cases h⟩
theorem RowMatch.startRecv : RowMatch.Statement .startRecv := ⟨rfl, rfl, fun _ h => by cases h⟩

theorem operand_mod (d : Byte) : d.toNat % 256 = d.toNat := Nat.mod_eq_of_lt d.isLt

theorem RowMatch.fnameByte (d : Byte) : RowMatch.Statement (.fnameByte d) :=
  ⟨rfl, Nat.and_zero _, fun _ h => by cases h; exact operand_mod d⟩

theorem RowMatch.payloadByte (d : Byte) : RowMatch.Statement (.payloadByte d) :=
  ⟨rfl, Nat.and_zero _, fun _ h => by cases h; exact operand_mod d⟩

theorem RowMatch.checksumByte (d : Byte) : RowMatch.Statement (.checksumByte d) :=
  ⟨rfl, Nat.and_zero _, fun _ h => by cases h; exact operand_mod d⟩

end Sys2Proof.Laws
end

