-- ==== Sys2Proof/Tests/Slice0.lean ====
section
/-! SUPPORT. Tests on small states: the well-formedness smoke test, the decoding of words written out from the spec, the
spec's vectors (spec/95_test_vectors.md, copied in ISA_SPEC.md) one step each, and, for every statement with hypotheses,
a witness that meets them (all of them together, one per clause). -/

namespace Sys2Proof.Tests

set_option Elab.async false

open Sys2Proof.Machine

/-! ### Small states -/

/-- The wire name "HI      TXT" (V-CD-1). -/
def hiName : List Byte := [0x48, 0x49, 0x20, 0x20, 0x20, 0x20, 0x20, 0x20, 0x54, 0x58, 0x54]

/-- "Hello". -/
def hello : List Byte := [0x48, 0x65, 0x6C, 0x6C, 0x6F]

/-- The file of the worked vectors: "HI      TXT" with the data "Hello". -/
def hiFile : HostFile := { name := hiName, data := hello }

/-- A busy sender in a state, with a list of two files. -/
def snd (st : St) (ph : Phase) : State :=
  { State.reset with
    ctl := { Ctl.reset with st := st, ph := ph, busy := true, tlim := 2000 }
    snd := { Snd.reset with n := 2, len := 5 }
    files := [hiFile, hiFile] }

/-- A busy receiver in a state. -/
def rcv (st : St) : State :=
  { State.reset with ctl := { Ctl.reset with st := st, ph := .wait, roleAct := .receiver, busy := true, tlim := 2000 } }

/-- The next state of an outcome, if it is one. -/
def after (o : Host.Outcome State Fault Refusal) : Option State :=
  match o with
  | .next s => some s
  | .fault _ => none
  | .refused _ => none

/-- What a vector of the spec states of a step: the position after it and the bytes it transmitted. -/
def seen (o : Host.Outcome State Fault Refusal) : Option (Pos × List Byte) :=
  (after o).map fun s => (s.pos, txBytes s.trace)

/-- The STATUS word after a step. -/
def status (o : Host.Outcome State Fault Refusal) : Option Word := (after o).map fun s => regRead s 0x10

/-- The position and the cause after a step. -/
def ended (o : Host.Outcome State Fault Refusal) : Option (Pos × Cause × Msg × St) :=
  (after o).map fun s => (s.pos, s.ctl.cause, s.ctl.msg, s.ctl.abortSt)

/-! ### WellFormed: one ill-formed term for its one check, and the terms beside it -/

theorem test_wf_refuses_pad_as_payload : (Instr.payloadByte 0x1A).wellFormed = false := by decide
theorem test_wf_accepts_neighbours :
    (Instr.payloadByte 0x19).wellFormed = true ∧ (Instr.payloadByte 0x1B).wellFormed = true ∧
    (Instr.fnameByte 0x1A).wellFormed = true ∧ (Instr.checksumByte 0x1A).wellFormed = true := by decide

/-! ### Decoding: every constructor from a word written out bit by bit (R80, R91, R270) -/

theorem test_decode_stx : decode .r6 (.line 0b00000010#8) = .ok (.stx) := by decide
theorem test_decode_etx : decode .r6 (.line 0b00000011#8) = .ok (.etx) := by decide
theorem test_decode_eot : decode .r3 (.line 0b00000100#8) = .ok (.eot) := by decide
theorem test_decode_enq : decode .r5 (.line 0b00000101#8) = .ok (.enq) := by decide
theorem test_decode_bs : decode .s3 (.line 0b00001000#8) = .ok (.bs) := by decide
theorem test_decode_tab : decode .s5 (.line 0b00001001#8) = .ok (.tab) := by decide
theorem test_decode_xoff : decode .r3 (.line 0b00010011#8) = .ok (.xoff) := by decide
theorem test_decode_symR : decode .r1 (.line 0b01010010#8) = .ok (.symR) := by decide
theorem test_decode_symS : decode .s1 (.line 0b01010011#8) = .ok (.symS) := by decide
theorem test_decode_gHandshake : decode .r2 (.line 0b01000111#8) = .ok (.gHandshake) := by decide
theorem test_decode_gAck : decode .s8 (.line 0b01000111#8) = .ok (.gAck) := by decide
theorem test_decode_symB : decode .s8 (.line 0b01000010#8) = .ok (.symB) := by decide
theorem test_decode_symP : decode .s6 (.line 0b01010000#8) = .ok (.symP) := by decide
theorem test_decode_symN : decode .s6 (.line 0b01001110#8) = .ok (.symN) := by decide
theorem test_decode_symX : decode .s5 (.line 0b01011000#8) = .ok (.symX) := by decide
theorem test_decode_pad : decode .r7 (.line 0b00011010#8) = .ok (.pad) := by decide
theorem test_decode_fnameByte : decode .r4 (.line 0b01001000#8) = .ok (.fnameByte 0x48) := by decide
theorem test_decode_payloadByte : decode .r7 (.line 0b00010011#8) = .ok (.payloadByte 0x13) := by decide
theorem test_decode_checksumByte : decode .r8 (.line 0b01011000#8) = .ok (.checksumByte 0x58) := by decide
theorem test_decode_startSend : decode .idle (.ctrl 0b00000000000000000000000000000001#32) = .ok .startSend := by decide
theorem test_decode_startRecv : decode .idle (.ctrl 0b00000000000000000000000000000011#32) = .ok .startRecv := by decide
theorem test_decode_rejects :
    decode .r6 (.line 0x41) = .error (.otherByte 0x41) ∧ decode .s7 (.line 0x02) = .error .notAwaiting ∧
    decode .idle (.ctrl 2) = .error .noStartBit := by decide

/-- R270: reserved bits of CTRL are ignored. -/
theorem test_decode_reserved_bits : decode .idle (.ctrl 0xFFFFFFFD#32) = .ok .startSend := by decide

theorem test_table_words :
    decodeTableWord 8 0x13 = some .xoff ∧ decodeTableWord 8 0x47 = some .gHandshake ∧
    decodeTableWord 8 0x1A = some .pad ∧ decodeTableWord 8 0x41 = some (.payloadByte 0x41) ∧
    decodeTableWord 32 1 = some .startSend ∧ decodeTableWord 32 3 = some .startRecv ∧
    decodeTableWord 33 3 = none := by decide

/-! ### Checksum, padding, validity, codec (V-CK, V-FR, V-CD) -/

theorem test_vck1 : xorChecksum (Vector.replicate 128 0x00) = 0x00 := by decide +kernel
theorem test_vck3 : xorChecksum (padBlock ((List.range 128).map (BitVec.ofNat 8))) = 0x00 := by decide +kernel
theorem test_vck4 : xorChecksum (padBlock hello) = 0x58 := by decide +kernel
theorem test_vck6 : xorChecksum (padBlock ((List.range 72).map fun t => BitVec.ofNat 8 (t + 0x80))) = 0x00 := by
  decide +kernel
theorem test_vck8 : xorChecksum (padBlock [0x49, 0x65, 0x6C, 0x6C, 0x6F]) = 0x59 := by decide +kernel
theorem test_vck9_block2 :
    xorChecksum (padBlock ((List.range 44).map fun t => BitVec.ofNat 8 (37 * (t + 256) + 11))) = 0x7C := by decide +kernel

/-- V-FR-8's REJECT_MASK: '*' (0x2A) is bit 10 of word 1. -/
def starMask : Vector Word 8 := (Vector.replicate 8 0#32).set 1 0x400

theorem test_vfr :
    validNameByte (Vector.replicate 8 0) 0x20 = true ∧ validNameByte (Vector.replicate 8 0) 0x7E = true ∧
    validNameByte (Vector.replicate 8 0) 0x1F = false ∧ validNameByte (Vector.replicate 8 0) 0x7F = false ∧
    validNameByte starMask 0x2A = false ∧ validNameByte starMask 0x29 = true := by decide +kernel

theorem test_vcd1 : toWire [0x68, 0x69, 0x2E, 0x74, 0x78, 0x74] = some hiName := by decide +kernel
theorem test_vcd1_back : fromWire hiName = [0x68, 0x69, 0x2E, 0x74, 0x78, 0x74] := by decide +kernel

/-- V-CD-7: "a.b.c" has the wire name "A       B  ". -/
theorem test_vcd7 : toWire [0x61, 0x2E, 0x62, 0x2E, 0x63] =
    some [0x41, 0x20, 0x20, 0x20, 0x20, 0x20, 0x20, 0x20, 0x42, 0x20, 0x20] := by decide +kernel

/-- V-CD-8: ".profile". -/
theorem test_vcd8 : (toWire [0x2E, 0x70, 0x72, 0x6F, 0x66, 0x69, 0x6C, 0x65]).map fromWire =
    some [0x2E, 0x70, 0x72, 0x6F] := by decide +kernel

/-! ### The sender's vectors (V-S), one step each -/

theorem test_vs1 : seen (step (snd .n1 .act)) = some (.s1, [0x52]) := by decide +kernel
theorem test_vs2_symS : seen (exec .symS (snd .n1 .wait)) = some (.s2, []) := by decide +kernel
theorem test_vs4 : status (step { snd .n1 .wait with ctl := { (snd .n1 .wait).ctl with tmr := 2000 } }) =
    some 0x001110F4 := by decide +kernel
theorem test_vs5 : seen (step { snd .n2 .act with answers := [.ok] }) = some (.s3, [0x47]) := by decide +kernel
theorem test_vs6 : status (step { snd .n2 .act with snd := Snd.reset }) = some 0x000000E2 := by decide +kernel
theorem test_vs7 : ended (step { snd .n2 .act with answers := [.fail] }) =
    some (.aborted, .fileIo, .receiverNotResponding, .n2) := by decide +kernel
theorem test_vs9_bs : seen (exec .bs (snd .n3 .wait)) = some (.s4, []) := by decide +kernel
theorem test_vs10_symX : status (exec .symX { snd .n3 .wait with answers := [.fail] }) = some 0x003220F4 := by
  decide +kernel
theorem test_vs11 : seen (step (snd .n4 .act)) = some (.s4, [0x48]) := by decide +kernel
theorem test_vs13_fnameByte :
    seen (exec (.fnameByte 0x54) { snd .n4 .wait with snd := { (snd .n4 .wait).snd with i := 10 } }) = some (.s5, []) := by
  decide +kernel
theorem test_vs15_tab : seen (exec .tab (snd .n5 .wait)) = some (.s6, []) := by decide +kernel
theorem test_vs16_symX : seen (exec .symX (snd .n5 .wait)) = some (.s3, []) := by decide +kernel
theorem test_vs17 : seen (step (snd .n6 .act)) = some (.s6, [0x02]) := by decide +kernel
theorem test_vs18 : seen (step { snd .n6 .act with snd := { (snd .n6 .act).snd with off := 5 } }) = some (.s9, [0x03]) := by
  decide +kernel
theorem test_vs20_symP : seen (exec .symP (snd .n6 .wait)) = some (.s7, []) := by decide +kernel
theorem test_vs21_symN : ended (exec .symN { snd .n6 .wait with answers := [.ok] }) =
    some (.aborted, .unexpected, .receiverNotResponding, .n6) := by decide +kernel
theorem test_vs22 :
    (after (step { snd .n7 .act with answers := [.ok] })).map (fun s => (s.pos, s.snd.blen, s.snd.chk, s.blk.toList.take 6)) =
      some (.s7, 5, 0x58, [0x48, 0x65, 0x6C, 0x6C, 0x6F, 0x1A]) := by decide +kernel

/-- A sender with the block "Hello" held. -/
def held (st : St) (ph : Phase) (j : BitVec 8) : State :=
  { snd st ph with
    blk := padBlock hello
    snd := { (snd st ph).snd with blkValid := true, blen := 5, chk := 0x58, j := j, srcOpen := true } }

theorem test_vs24 : (after (step (held .n7 .act 0))).map (fun s => (s.snd.j, s.trace)) = some (1, [.tx 0x48]) := by
  decide +kernel
theorem test_vs25 : seen (step (held .n7 .act 127)) = some (.s8, [0x1A]) := by decide +kernel
theorem test_vs26 : seen (step (held .n8 .act 128)) = some (.s8, [0x58]) := by decide +kernel
theorem test_vs27_gAck :
    (after (exec .gAck (held .n8 .wait 128))).map (fun s => (s.pos, s.snd.off, s.snd.blkValid, s.snd.nblk)) =
      some (.s6, 5, false, 1) := by decide +kernel
theorem test_vs28_symB :
    (after (exec .symB (held .n8 .wait 128))).map (fun s => (s.pos, s.snd.retry, s.snd.blkValid)) =
      some (.s6, 1, true) := by decide +kernel

/-- V-S-29's sender: the retry bound is 1 and used up. -/
def bounded : State :=
  { held .n8 .wait 128 with
    cfg := { Cfg.reset with retryLimit := 1 }, answers := [.ok]
    snd := { (held .n8 .wait 128).snd with retry := 1 } }

theorem test_vs29_symB : status (exec .symB bounded) = some 0x008250F4 := by decide +kernel
theorem test_vs31 :
    (after (step { snd .n9 .act with answers := [.ok], snd := { (snd .n9 .act).snd with k := 1, srcOpen := true } })).map
      (fun s => (s.pos, s.snd.k, s.snd.srcOpen, s.ctl.filesDone)) = some (.done, 2, false, 1) := by decide +kernel
theorem test_vs33 : status (step { snd .n9 .act with answers := [.ok, .fail] }) = some 0x009240F4 := by decide +kernel
theorem test_vs34 : status (step { held .n7 .act 3 with line := .failed, answers := [.ok] }) = some 0x007230F4 := by
  decide +kernel

/-! ### The receiver's vectors (V-R), one step each -/

theorem test_vr2_symR : seen (exec .symR (rcv .n1)) = some (.r2, [0x53]) := by decide +kernel
theorem test_vr3 : (after (step { rcv .n1 with rxq := [0x00] })).map (fun s => (s.pos, s.ctl.tmr, s.ctl.tlim)) =
    some (.r1, 0, 5000) := by decide +kernel
theorem test_vr4 : status (step { rcv .n1 with ctl := { (rcv .n1).ctl with tmr := 2000 } }) = some 0x001310FC := by
  decide +kernel
theorem test_vr5_gHandshake : seen (exec .gHandshake (rcv .n2)) = some (.r3, []) := by decide +kernel
theorem test_vr6 : status (exec .symR (rcv .n2)) = some 0x002420FC := by decide +kernel
theorem test_vr7_eot : seen (exec .eot (rcv .n3)) = some (.r4, [0x08]) := by decide +kernel
theorem test_vr8_xoff : status (exec .xoff (rcv .n3)) = some 0x000000EA := by decide +kernel
theorem test_vr10_fnameByte :
    (after (exec (.fnameByte 0x48) (rcv .n4))).map (fun s => (s.pos, s.rcv.i, s.name.toList.take 2)) =
      some (.r4, 1, [0x48, 0]) := by decide +kernel
theorem test_vr13_enq : seen (exec .enq { rcv .n5 with answers := [.ok] }) = some (.r6, [0x09]) := by decide +kernel
theorem test_vr14_enq : seen (exec .enq { rcv .n5 with answers := [.fail] }) = some (.r3, [0x58]) := by decide +kernel
theorem test_vr16_stx : seen (exec .stx (rcv .n6)) = some (.r7, [0x50]) := by decide +kernel
theorem test_vr17_etx : (after (exec .etx { rcv .n6 with answers := [.ok] })).map (fun s => (s.pos, s.ctl.filesDone)) =
    some (.r3, 1) := by decide +kernel
theorem test_vr18_etx : ended (exec .etx { rcv .n6 with answers := [.fail] }) =
    some (.aborted, .fileIo, .senderNotResponding, .n6) := by decide +kernel
theorem test_vr19 : seen (exec .eot (rcv .n6)) = some (.r6, [0x4E]) := by decide +kernel
theorem test_vr20_payloadByte :
    (after (exec (.payloadByte 0x48) (rcv .n7))).map (fun s => (s.pos, s.rcv.j, s.rcv.acc, s.blk.toList.take 1)) =
      some (.r7, 1, 0x48, [0x48]) := by decide +kernel
theorem test_vr21_pad : seen (exec .pad { rcv .n7 with rcv := { Rcv.reset with j := 127 } }) = some (.r8, []) := by
  decide +kernel
theorem test_vr22 : seen (step { rcv .n7 with rxq := [0x13] }) = some (.r7, []) := by decide +kernel
theorem test_vr23_checksumByte :
    (after (exec (.checksumByte 0x58) { rcv .n8 with rcv := { Rcv.reset with acc := 0x58 }, answers := [.ok] })).map
      (fun s => (s.pos, s.rcv.nblk, txBytes s.trace)) = some (.r6, 1, [0x47]) := by decide +kernel
theorem test_vr24_checksumByte :
    (after (exec (.checksumByte 0x59) { rcv .n8 with rcv := { Rcv.reset with acc := 0x58 } })).map
      (fun s => (s.pos, s.rcv.nbad, txBytes s.trace)) = some (.r6, 1, [0x42]) := by decide +kernel
theorem test_vr25 :
    status (step { rcv .n8 with
      rxq := [0x58], answers := [.fail, .ok], rcv := { Rcv.reset with acc := 0x58, snkOpen := true } }) =
      some 0x008440FC := by decide +kernel

/-- R66, R310: ENQ in R5 opens the sink, the TAB is never accepted, and the line then fails: the handle is closed. -/
def stuckOpen : Option State := after (exec .enq { rcv .n5 with answers := [.ok, .ok], line := .stallsAfter 0 })

theorem test_stuck_open :
    stuckOpen.map (fun s => (s.pos, s.rcv.snkOpen, txBytes s.trace)) = some (.r5, false, []) ∧
    (stuckOpen.bind fun s => after (step { s with inputs := [], line := .failed })).map
      (fun s => (s.pos, s.ctl.cause, s.ctl.abortSt, s.rcv.snkOpen, s.trace.length)) =
      some (.aborted, .lineIo, .n5, false, 2) := by decide +kernel

/-- R66, R284: in S2 of an empty list the line accepts 'G' and never accepts XOFF. -/
theorem test_stuck_after_g :
    (after (step { snd .n2 .act with snd := Snd.reset, line := .stallsAfter 1 })).map
      (fun s => (s.pos, s.ctl.done, s.stuck.isSome, s.line, txBytes s.trace)) =
      some (.s2, false, true, .stallsAfter 0, [0x47]) := by decide +kernel

/-- R308: a line that has failed stays failed while the endpoint is busy, and comes up after the abort. -/
theorem test_failed_stays :
    (after (step { rcv .n7 with line := .failed, inputs := [.lineUp] })).map (·.line) = some .failed ∧
    (after (step { State.reset with line := .failed, inputs := [.lineUp] })).map (·.line) = some .up := by
  decide +kernel

/-! ### START, STATUS and reset (V-EX, R270, R340) -/

theorem test_vex1 : regRead State.reset 0x10 = 0x00000000 := by decide +kernel
theorem test_vex2 : regRead (snd .n4 .wait) 0x10 = 0x00000141 := by decide +kernel
theorem test_vex3 : regRead (rcv .n7) 0x10 = 0x00000179 := by decide +kernel
theorem test_vex8_startSend : status (exec .startSend (snd .n4 .wait)) = some 0x00000141 := by decide +kernel
theorem test_vex9_startRecv :
    status (step { State.reset with
      inputs := [.write 0 3]
      ctl := { Ctl.reset with
        st := .aborted, aborted := true, cause := .unexpected, msg := .receiverNotResponding, abortSt := .n3 } }) =
      some 0x00000119 := by decide +kernel
theorem test_vex10 :
    (after (step { snd .n4 .wait with inputs := [.write 2 5] })).map (fun s => s.cfg.retryLimit) = some 0 := by
  decide +kernel
theorem test_startSend_opens :
    (after (exec .startSend { State.reset with files := [hiFile] })).map (fun s => (s.pos, s.ctl.busy, s.snd.n)) =
      some (.s1, true, 1) := by decide +kernel
theorem test_reset_discards :
    (after (step { rcv .n7 with rxq := [1], inputs := [.reset false] })).map (fun s => (s.pos, s.rxq)) =
      some (.idle, []) := by decide +kernel
theorem test_fetch_symbol : seen (step (State.reset.withFetchWord 8 0x02)) = some (.r7, [0x50]) := by decide +kernel
theorem test_fetch_start : seen (step (State.reset.withFetchWord 32 1)) = some (.s1, []) := by decide +kernel

/-! ### Witnesses: states and operands that meet the hypotheses of each statement -/

theorem test_witness_DecodeEncodeAgree :
    (Instr.payloadByte 0x1B).wellFormed = true ∧ (Instr.payloadByte 0x1B).readIn .r7 = true ∧
    Instr.startRecv.wellFormed = true ∧ Instr.startRecv.readIn .done = true := by decide +kernel

theorem test_witness_DecodedCodeEncodesBack :
    decode .s8 (.line 0x47) = .ok .gAck ∧ decode .idle (.ctrl 0x7) = .ok .startRecv := by decide +kernel

theorem test_witness_StateSelectsDecoder :
    Pos.s1 ∈ [Pos.s1, .s3, .s5, .s6, .s8, .r1, .r2, .r3, .r5, .r6] ∧
    Pos.unused ∈ [Pos.idle, .s2, .s7, .s9, .done, .aborted, .unused] := by decide +kernel

theorem test_witness_StepRunsReceivedByte :
    (let s : State := { rcv .n6 with rxq := [0x02] }
     s.listening = true ∧ s.line ≠ .failed ∧ s.rxq = 0x02 :: [] ∧ decode s.pos (.line 0x02) = .ok .stx ∧ s.inputs = []) ∧
    (let s : State := { snd .n4 .wait with rxq := [0xFF, 0x01], inputs := [.turn, .tick] }
     s.listening = true ∧ s.line ≠ .failed ∧ s.rxq = 0xFF :: [0x01] ∧
     decode s.pos (.line 0xFF) = .ok (.fnameByte 0xFF) ∧ s.inputs = .turn :: [.tick]) ∧
    (let s : State := { rcv .n6 with rxq := [0x41] }
     s.listening = true ∧ s.line ≠ .failed ∧ s.rxq = 0x41 :: [] ∧
     decode s.pos (.line 0x41) = .error (.otherByte 0x41) ∧ s.inputs = []) ∧
    (let s : State := { rcv .n6 with rxq := [0x41], inputs := [.turn] }
     s.listening = true ∧ s.line ≠ .failed ∧ s.rxq = 0x41 :: [] ∧
     decode s.pos (.line 0x41) = .error (.otherByte 0x41) ∧ s.inputs = .turn :: []) := by decide +kernel

theorem test_witness_StepRunsControlWrite :
    ({ State.reset with inputs := [.write 0x00 1] } : State).inputs = .write 0x00 1 :: [] ∧
    (1 : Word).getLsbD 0 = true ∧ (1 : Word).getLsbD 1 = false ∧
    ({ State.reset with inputs := [.write 0x00 3] } : State).inputs = .write 0x00 3 :: [] ∧
    (3 : Word).getLsbD 0 = true ∧ (3 : Word).getLsbD 1 = true ∧
    ({ snd .n1 .act with inputs := [.write 0x00 2] } : State).inputs = .write 0x00 2 :: [] ∧
    (2 : Word).getLsbD 0 = false := by decide +kernel

theorem test_witness_MeaningDependsOnStateOnly :
    encode (.checksumByte 0xFF) = .line 0xFF ∧ encode .gAck = .line 0x47 ∧
    State.reset.listening = false ∧ (snd .n7 .act).listening = false ∧ (snd .n3 .act).listening = false := by decide +kernel

/-- A state that meets the hypotheses of `TimesOutIn p`: the limit is reached and nothing is queued. -/
abbrev TimesOutWitness (s : State) (p : Pos) : Prop :=
  s.Awaits p ∧ s.inputs = [] ∧ s.line ≠ .failed ∧ s.rxq = [] ∧ s.ctl.tlim = awaitLimit p ∧ s.ctl.tmr = awaitLimit p

/-- A state whose timer has expired. -/
def expired (s : State) : State := { s with ctl := { s.ctl with tmr := awaitLimit s.pos, tlim := awaitLimit s.pos } }

theorem test_witness_AwaitReceiverReadyInS1 :
    (snd .n1 .wait).Awaits .s1 ∧ (0x52 : Byte) ≠ 0x53 ∧ TimesOutWitness (expired (snd .n1 .wait)) .s1 := by decide +kernel

theorem test_witness_AwaitFilenameRequestInS3 :
    (snd .n3 .wait).Awaits .s3 ∧ (0x58 : Byte) ≠ 0x08 ∧ TimesOutWitness (expired (snd .n3 .wait)) .s3 := by decide +kernel

/-- S4 with the last filename byte awaited, and with the first. -/
def lastName : State := { snd .n4 .wait with snd := { (snd .n4 .wait).snd with i := 10, k := 1 } }

theorem test_witness_AwaitEchoInS4 :
    lastName.Awaits .s4 ∧ lastName.files[lastName.snd.k.toNat]? = some hiFile ∧
    hiFile.name[lastName.snd.i.toNat]? = some 0x54 ∧ (snd .n4 .wait).Awaits .s4 ∧
    (snd .n4 .wait).files[(snd .n4 .wait).snd.k.toNat]? = some hiFile ∧
    hiFile.name[(snd .n4 .wait).snd.i.toNat]? = some 0x48 ∧ (0x54 : Byte) ≠ 0x48 ∧ (0x48 : Byte) ≠ 0x58 ∧
    TimesOutWitness (expired lastName) .s4 := by decide +kernel

theorem test_witness_AwaitReadyForDataInS5 :
    (snd .n5 .wait).Awaits .s5 ∧ (0x08 : Byte) ≠ 0x09 ∧ TimesOutWitness (expired (snd .n5 .wait)) .s5 := by decide +kernel

theorem test_witness_AwaitProceedInS6 :
    (snd .n6 .wait).Awaits .s6 ∧ (0x4E : Byte) ≠ 0x50 ∧ TimesOutWitness (expired (snd .n6 .wait)) .s6 := by decide +kernel

theorem test_witness_AwaitAcknowledgementInS8 :
    (held .n8 .wait 128).Awaits .s8 ∧ (held .n8 .wait 128).cfg.retryLimit = 0 ∧
    bounded.Awaits .s8 ∧ bounded.cfg.retryLimit ≠ 0 ∧ bounded.snd.retry = bounded.cfg.retryLimit ∧
    ({ bounded with snd := Snd.reset } : State).Awaits .s8 ∧
    ({ bounded with snd := Snd.reset } : State).snd.retry ≠ ({ bounded with snd := Snd.reset } : State).cfg.retryLimit ∧
    (0x50 : Byte) ≠ 0x47 ∧ (0x50 : Byte) ≠ 0x42 ∧ TimesOutWitness (expired (held .n8 .wait 128)) .s8 := by decide +kernel

theorem test_witness_AwaitSenderReadyInR1 :
    (rcv .n1).Awaits .r1 ∧ (rcv .n1).line.accepts = true ∧ (0x53 : Byte) ≠ 0x52 ∧
    TimesOutWitness (expired (rcv .n1)) .r1 := by decide +kernel

theorem test_witness_AwaitHandshakeInR2 :
    (rcv .n2).Awaits .r2 ∧ (0x46 : Byte) ≠ 0x47 ∧ TimesOutWitness (expired (rcv .n2)) .r2 := by decide +kernel

theorem test_witness_AwaitFileOrEndInR3 :
    (rcv .n3).Awaits .r3 ∧ (rcv .n3).line.accepts = true ∧
    ({ rcv .n3 with line := .failsAfter 1 } : State).Awaits .r3 ∧ (Line.failsAfter 1).accepts = true ∧
    (0x05 : Byte) ≠ 0x04 ∧ (0x05 : Byte) ≠ 0x13 ∧ TimesOutWitness (expired (rcv .n3)) .r3 := by decide +kernel

/-- R4 with the last filename byte awaited. -/
def lastRcv : State := { rcv .n4 with rcv := { Rcv.reset with i := 10 } }

theorem test_witness_AwaitFilenameByteInR4 :
    lastRcv.Awaits .r4 ∧ lastRcv.line.accepts = true ∧ lastRcv.rcv.i < 11 ∧
    validNameByte lastRcv.cfg.rejectMask 0x7E = true ∧ (rcv .n4).Awaits .r4 ∧ (rcv .n4).rcv.i < 11 ∧
    validNameByte (rcv .n4).cfg.rejectMask 0x20 = true ∧ validNameByte (rcv .n4).cfg.rejectMask 0x1F = false ∧
    TimesOutWitness (expired lastRcv) .r4 := by decide +kernel

/-- A state whose host answers the next operation so. -/
def answering (s : State) (a : Answer) : State := { s with answers := [a] }

theorem test_witness_AwaitFilenameEndInR5 :
    (∀ a, (answering (rcv .n5) a).Awaits .r5 ∧ (answering (rcv .n5) a).line.accepts = true) ∧
    (answering (rcv .n5) .ok).hostCall (.snkOpen (rcv .n5).name) = (.ok, ((answering (rcv .n5) .ok).hostCall (.snkOpen (rcv .n5).name)).2) ∧
    (answering (rcv .n5) .fail).hostCall (.snkOpen (rcv .n5).name) = (.fail, ((answering (rcv .n5) .fail).hostCall (.snkOpen (rcv .n5).name)).2) ∧
    (0x04 : Byte) ≠ 0x05 ∧ TimesOutWitness (expired (rcv .n5)) .r5 := by
  refine ⟨?_, by decide +kernel, by decide +kernel, by decide +kernel, by decide +kernel⟩
  intro a; cases a <;> decide +kernel

theorem test_witness_AwaitBlockOrFileEndInR6 :
    (rcv .n6).Awaits .r6 ∧ (rcv .n6).line.accepts = true ∧
    (answering (rcv .n6) .ok).Awaits .r6 ∧ (answering (rcv .n6) .fail).Awaits .r6 ∧
    (answering (rcv .n6) .ok).hostCall (.snkClose) = (.ok, ((answering (rcv .n6) .ok).hostCall (.snkClose)).2) ∧
    (answering (rcv .n6) .fail).hostCall (.snkClose) = (.fail, ((answering (rcv .n6) .fail).hostCall (.snkClose)).2) ∧
    (0x01 : Byte) ≠ 0x02 ∧ (0x01 : Byte) ≠ 0x03 ∧ TimesOutWitness (expired (rcv .n6)) .r6 := by decide +kernel

/-- R7 with the last payload byte awaited. -/
def lastPayload : State := { rcv .n7 with rcv := { Rcv.reset with j := 127 } }

theorem test_witness_AwaitPayloadInR7 :
    (rcv .n7).Awaits .r7 ∧ (rcv .n7).rcv.j < 128 ∧ lastPayload.Awaits .r7 ∧ lastPayload.rcv.j < 128 ∧
    TimesOutWitness (expired lastPayload) .r7 := by decide +kernel

theorem test_witness_AwaitChecksumInR8 :
    (answering (rcv .n8) .ok).Awaits .r8 ∧ (answering (rcv .n8) .ok).line.accepts = true ∧
    (answering (rcv .n8) .fail).Awaits .r8 ∧
    (answering (rcv .n8) .ok).hostCall (.snkWrite (rcv .n8).blk) = (.ok, ((answering (rcv .n8) .ok).hostCall (.snkWrite (rcv .n8).blk)).2) ∧
    (answering (rcv .n8) .fail).hostCall (.snkWrite (rcv .n8).blk) = (.fail, ((answering (rcv .n8) .fail).hostCall (.snkWrite (rcv .n8).blk)).2) ∧
    (0x01 : Byte) ≠ (rcv .n8).rcv.acc ∧ TimesOutWitness (expired (rcv .n8)) .r8 := by decide +kernel

theorem test_witness_ActPhasesThatAwaitReply :
    (snd .n1 .act).Acts .s1 ∧ (snd .n3 .act).Acts .s3 ∧ (snd .n5 .act).Acts .s5 ∧ (snd .n8 .act).Acts .s8 ∧
    (snd .n4 .act).Acts .s4 ∧ (snd .n4 .act).line.accepts = true ∧
    (snd .n4 .act).files[(snd .n4 .act).snd.k.toNat]? = some hiFile ∧
    hiFile.name[(snd .n4 .act).snd.i.toNat]? = some 0x48 ∧
    (let s : State := { lastName with ctl := { lastName.ctl with ph := .act }, line := .failsAfter 1 }
     s.Acts .s4 ∧ s.line.accepts = true ∧ s.files[s.snd.k.toNat]? = some hiFile ∧
     hiFile.name[s.snd.i.toNat]? = some 0x54) := by decide +kernel

/-- The sender of an empty list in S2. -/
def emptyList : State := { snd .n2 .act with snd := Snd.reset, files := [], line := .failsAfter 2 }

/-- S2 of a list of two files, 'G' sent and k = 0. -/
def greeted (a : Answer) : State := { answering (snd .n2 .act) a with trace := [.tx 0x47] }

theorem test_witness_ActOfS2OpensFirstFile :
    emptyList.Acts .s2 ∧ emptyList.line.accepts = true ∧ emptyList.line.afterByte.accepts = true ∧ emptyList.snd.n = 0 ∧
    (∀ a, (answering (snd .n2 .act) a).Acts .s2 ∧ (answering (snd .n2 .act) a).line.accepts = true ∧
      0 < (answering (snd .n2 .act) a).snd.n ∧
      greeted a = { answering (snd .n2 .act) a with
        trace := (answering (snd .n2 .act) a).trace ++ [.tx 0x47], line := (answering (snd .n2 .act) a).line.afterByte
        snd := { (answering (snd .n2 .act) a).snd with k := 0 } } ∧
      (greeted a).hostCall (.srcOpen 0) = (a, ((greeted a).hostCall (.srcOpen 0)).2) ∧
      (answering (snd .n2 .act) a).files[0]? = some hiFile) := by
  refine ⟨by decide +kernel, by decide +kernel, by decide +kernel, by decide +kernel, ?_⟩
  intro a; cases a <;> decide +kernel

/-- S9 after the first and after the last of two files, with the answer of the next file's open. -/
def closing (k : BitVec 16) (a : Answer) : State :=
  { snd .n9 .act with answers := [.fail, a], snd := { (snd .n9 .act).snd with k := k, srcOpen := true } }

/-- S9 after its close and its count. -/
def closed (k : BitVec 16) (a : Answer) : State :=
  { ((closing k a).hostCall (.srcClose k)).2 with
    snd := { (closing k a).snd with srcOpen := false, k := k + 1 }
    ctl := { (closing k a).ctl with filesDone := (closing k a).ctl.filesDone + 1 } }

theorem test_witness_ActOfS9EndsFile :
    (closing 1 .ok).Acts .s9 ∧ ¬ (closing 1 .ok).snd.k + 1 < (closing 1 .ok).snd.n ∧ (closing 1 .ok).line.accepts = true ∧
    (∀ a, (closing 0 a).Acts .s9 ∧ (closing 0 a).snd.k + 1 < (closing 0 a).snd.n ∧
      (closed 0 a).hostCall (.srcOpen ((closing 0 a).snd.k + 1)) =
        (a, ((closed 0 a).hostCall (.srcOpen ((closing 0 a).snd.k + 1))).2) ∧
      (closing 0 a).files[((closing 0 a).snd.k + 1).toNat]? = some hiFile) := by
  refine ⟨by decide +kernel, by decide +kernel, by decide +kernel, ?_⟩
  intro a; cases a <;> decide +kernel

theorem test_witness_ActOfS6AnnouncesBlockOrEnd :
    (let s : State := { snd .n6 .act with snd := { (snd .n6 .act).snd with off := 5 } }
     s.Acts .s6 ∧ s.line.accepts = true ∧ s.snd.blkValid = false ∧ s.snd.off = s.snd.len) ∧
    (snd .n6 .act).Acts .s6 ∧ (snd .n6 .act).line.accepts = true ∧ (snd .n6 .act).snd.off ≠ (snd .n6 .act).snd.len ∧
    (let s : State := { held .n6 .act 128 with snd := { (held .n6 .act 128).snd with off := 5 } }
     s.Acts .s6 ∧ s.line.accepts = true ∧ s.snd.blkValid = true ∧ s.snd.off = s.snd.len) := by decide +kernel

theorem test_witness_ActOfS7AssemblesBlock :
    ∀ a, (answering (snd .n7 .act) a).Acts .s7 ∧ (answering (snd .n7 .act) a).snd.blkValid = false ∧
      (answering (snd .n7 .act) a).snd.off < (answering (snd .n7 .act) a).snd.len ∧
      5 = min 128 ((answering (snd .n7 .act) a).snd.len.toNat - (answering (snd .n7 .act) a).snd.off.toNat) ∧
      (answering (snd .n7 .act) a).hostCall (.srcRead 0 0 5) =
        (a, ((answering (snd .n7 .act) a).hostCall (.srcRead 0 0 5)).2) ∧
      (answering (snd .n7 .act) a).files[(answering (snd .n7 .act) a).snd.k.toNat]? = some hiFile ∧
      (answering (snd .n7 .act) a).snd.off.toNat + 5 ≤ hiFile.data.length := by intro a; cases a <;> decide +kernel

theorem test_witness_ActOfS7StreamsBlock :
    ∀ j ∈ [0, 1, 127], (held .n7 .act j).Acts .s7 ∧ (held .n7 .act j).line.accepts = true ∧
      (held .n7 .act j).snd.blkValid = true ∧ ((held .n7 .act j).blk[(held .n7 .act j).snd.j.toNat]?).isSome = true := by decide +kernel

theorem test_witness_StartSendOpensSession :
    (let s : State := { State.reset with files := [hiFile, { hiFile with data := [] }] }
     s.ctl.busy = false ∧ s.files.length ≤ 65535 ∧ ∀ f ∈ s.files, f.name.length = 11 ∧ f.data.length < 2 ^ 32) ∧
    (let s : State := { State.reset with files := [hiFile, { hiFile with name := hiName.take 10 }] }
     s.ctl.busy = false ∧ ∃ f ∈ s.files, f.name.length ≠ 11 ∨ 2 ^ 32 ≤ f.data.length) := by decide +kernel

theorem test_witness_StartSendOpensSession_longList :
    (let s : State := { State.reset with files := List.replicate 65536 hiFile }
     s.ctl.busy = false ∧ 65535 < s.files.length) ∧
    ∃ f : HostFile, f ∈ [f] ∧ (f.name.length ≠ 11 ∨ 2 ^ 32 ≤ f.data.length) := by
  refine ⟨⟨rfl, ?_⟩, ⟨{ name := [], data := [] }, ?_⟩⟩
  · simp only [List.length_replicate]; omega
  · decide

theorem test_witness_StartRecvOpensSession :
    State.reset.ctl.busy = false := by decide +kernel

theorem test_witness_StartWhileBusyIgnored :
    (snd .n1 .act).ctl.busy = true ∧ (rcv .n8).ctl.busy = true ∧
    ({ rcv .n8 with inputs := [.write 0x00 1] } : State).inputs = .write 0x00 1 :: [] ∧ (1 : Word).getLsbD 0 = true := by decide +kernel

theorem test_witness_AbortEntry :
    (let s : State := held .n7 .act 3
     s.ctl.roleAct = .sender ∧ s.snd.srcOpen = true) ∧
    (let s : State := { rcv .n7 with rcv := { Rcv.reset with snkOpen := true } }
     ¬ (s.ctl.roleAct = .sender ∧ s.snd.srcOpen = true) ∧ s.ctl.roleAct = .receiver ∧ s.rcv.snkOpen = true) ∧
    (let s : State := rcv .n1
     ¬ (s.ctl.roleAct = .sender ∧ s.snd.srcOpen = true) ∧ ¬ (s.ctl.roleAct = .receiver ∧ s.rcv.snkOpen = true)) := by decide +kernel

theorem test_witness_HostCallRecorded :
    (answering State.reset .fail).answers = .fail :: [] ∧ State.reset.answers = [] := by decide +kernel

theorem test_witness_LineFailureComesFirst :
    (let s : State := { rcv .n7 with line := .failed, rxq := [0x01], ctl := { (rcv .n7).ctl with tmr := 2000 } }
     s.pos.inSession = true ∧ s.stuck = none ∧ s.inputs = [] ∧ s.line = .failed) ∧
    (let s : State := { State.reset with line := .failed }
     s.pos ∈ [Pos.idle, .done, .aborted] ∧ s.inputs = []) ∧
    (let s : State := { rcv .n7 with line := .failed, inputs := [.lineStallAfter 0] }
     s.ctl.busy = true ∧ s.line = .failed ∧ (after (step s)).isSome = true) := by decide +kernel

theorem test_witness_FailureInTransmission_act :
    (∀ l ∈ [Line.failsAfter 0, .stallsAfter 0],
      ∀ p ∈ [(Pos.s1, St.n1), (.s2, .n2), (.s3, .n3), (.s5, .n5), (.s6, .n6), (.s8, .n8)],
        p.1 ∈ [Pos.s1, .s2, .s3, .s5, .s6, .s8] ∧ ({ snd p.2 .act with line := l } : State).Acts p.1) ∧
    (∀ l ∈ [Line.failsAfter 0, .stallsAfter 0],
      (let s : State := { lastName with ctl := { lastName.ctl with ph := .act }, line := l }
       s.Acts .s4 ∧ s.files[s.snd.k.toNat]? = some hiFile ∧ hiFile.name[s.snd.i.toNat]? = some 0x54)) ∧
    (∀ l ∈ [Line.failsAfter 0, .stallsAfter 0], ∀ j ∈ [0, 1, 127],
      (let s : State := { held .n7 .act j with line := l }
       s.Acts .s7 ∧ s.snd.blkValid = true ∧ (s.blk[s.snd.j.toNat]?).isSome = true)) ∧
    (∀ l ∈ [Line.failsAfter 1, .stallsAfter 1],
      (let s : State := { emptyList with line := l }
       s.Acts .s2 ∧ s.line.accepts = true ∧ s.snd.n = 0 ∧ s.line.afterByte.accepts = false)) ∧
    (∀ l ∈ [Line.failsAfter 0, .stallsAfter 0],
      (let s : State := { closing 1 .ok with line := l }
       s.Acts .s9 ∧ ¬ s.snd.k + 1 < s.snd.n)) ∧
    (∀ l ∈ [Line.stallsAfter 0, .failed],
      (let s : State := { snd .n9 .act with stuck := some (snd .n9 .act).registers, line := l }
       s.stuck = some (snd .n9 .act).registers ∧ s.pos.inSession = true ∧ s.inputs = [])) := by decide +kernel

theorem test_witness_FailureInTransmission_receive :
    ∀ l ∈ [Line.failsAfter 0, .stallsAfter 0],
      (∀ p ∈ [(Instr.symR, Pos.r1, St.n1), (.eot, .r3, .n3), (.stx, .r6, .n6)],
        (p.1, p.2.1) ∈ [(Instr.symR, Pos.r1), (.eot, .r3), (.stx, .r6)] ∧
        ({ rcv p.2.2 with line := l } : State).Awaits p.2.1) ∧
      ({ rcv .n3 with line := l } : State).Awaits .r3 ∧ (0x05 : Byte) ≠ 0x04 ∧ (0x05 : Byte) ≠ 0x13 ∧
      ({ rcv .n4 with line := l } : State).Awaits .r4 ∧ validNameByte Cfg.reset.rejectMask 0x1F = false ∧
      ({ rcv .n5 with line := l } : State).Awaits .r5 ∧ (0x04 : Byte) ≠ 0x05 ∧
      ({ rcv .n6 with line := l } : State).Awaits .r6 ∧ (0x01 : Byte) ≠ 0x02 ∧ (0x01 : Byte) ≠ 0x03 ∧
      ({ lastRcv with line := l } : State).Awaits .r4 ∧ ({ lastRcv with line := l } : State).rcv.i < 11 ∧
      validNameByte ({ lastRcv with line := l } : State).cfg.rejectMask 0x7E = true ∧
      validNameByte ({ lastRcv with line := l } : State).cfg.rejectMask 0x20 = true := by decide +kernel

theorem test_witness_FailureInTransmission_host :
    ∀ l ∈ [Line.failsAfter 0, .stallsAfter 0],
      (∀ a ∈ [Answer.ok, .fail],
        ({ rcv .n5 with line := l, answers := [a] } : State).Awaits .r5 ∧
        (({ rcv .n5 with line := l, answers := [a] } : State).hostCall (.snkOpen (rcv .n5).name)).1 = a) ∧
      ({ rcv .n8 with line := l, answers := [.ok] } : State).Awaits .r8 ∧
      (({ rcv .n8 with line := l, answers := [.ok] } : State).hostCall (.snkWrite (rcv .n8).blk)).1 = .ok ∧
      (0x01 : Byte) ≠ (rcv .n8).rcv.acc := by decide +kernel

/-- R3 with a timer and a tick next. -/
def ticking (n : BitVec 16) : State :=
  { rcv .n3 with inputs := [.tick], ctl := { (rcv .n3).ctl with tmr := n } }

theorem test_witness_TimeoutExactlyAtLimit_tick :
    (ticking 1999).inputs = .tick :: [] ∧ (ticking 1999).listening = true ∧
    (ticking 2000).inputs = .tick :: [] ∧ (ticking 2000).listening = true := by decide +kernel

/-- R321: a tick counts up to the limit and not past it. -/
theorem test_tick :
    (after (step (ticking 1999))).map (fun s => (s.pos, s.ctl.tmr)) = some (.r3, 2000) ∧
    (after (step (ticking 2000))).map (fun s => (s.pos, s.ctl.tmr)) = some (.r3, 2000) := by decide +kernel

theorem test_witness_TimeoutExactlyAtLimit :
    (let s : State := expired (rcv .n3)
     s.listening = true ∧ s.inputs = [] ∧ s.line ≠ .failed ∧ s.rxq = [] ∧ s.ctl.tmr = s.ctl.tlim) ∧
    (let s : State := { rcv .n3 with ctl := { (rcv .n3).ctl with tmr := 1999 } }
     s.listening = true ∧ s.inputs = [] ∧ s.line ≠ .failed ∧ s.rxq = [] ∧ s.ctl.tmr < s.ctl.tlim) ∧
    (let s : State := { snd .n3 .act with inputs := [.tick] }
     s.inputs = .tick :: [] ∧ s.listening = false) := by decide +kernel

theorem test_witness_StatusWordFields :
    ((snd .n9 .act).ctl.st = .n9 ∧ bounded.ctl.cause = .none ∧ bounded.ctl.msg = .none ∧ bounded.ctl.abortSt = .idle) ∧
    (after (exec .symB bounded)).map (fun s => (s.ctl.st, s.ctl.cause, s.ctl.msg, s.ctl.abortSt)) =
      some (.aborted, .retryLimit, .receiverNotResponding, .n8) := by decide +kernel

theorem test_witness_RegisterWrites :
    (let s : State := { snd .n3 .act with inputs := [.write 1 7] }
     s.inputs = .write 1 7 :: [] ∧ (1 : Nat) ≠ 0 ∧ s.ctl.busy = true) ∧
    (∀ idx ∈ [1, 2, 3, 10, 11, 20],
      ({ State.reset with inputs := [.write idx 0xFFFFFFFF] } : State).inputs = .write idx 0xFFFFFFFF :: [] ∧ idx ≠ 0 ∧
      ({ State.reset with inputs := [.write idx 0xFFFFFFFF] } : State).ctl.busy = false) := by decide +kernel

theorem test_witness_RegisterReads :
    ({ State.reset with inputs := [.read 0x10] } : State).inputs = .read 0x10 :: [] ∧
    (∀ idx ∈ [0x0B, 0x0F, 0x15], 0x0A < idx ∧ idx < 0x10 ∨ 0x14 < idx) := by decide +kernel

theorem test_witness_ResetFromAnyState :
    ({ held .n7 .act 3 with inputs := [.reset true] } : State).inputs = .reset true :: [] ∧
    ({ held .n7 .act 3 with inputs := [.reset false] } : State).inputs = .reset false :: [] := by decide +kernel

theorem test_witness_ChecksumDetection :
    (let sent := padBlock hello
     let got := padBlock [0x49, 0x64, 0x6C, 0x6C, 0x6F]
     got = (sent.set 0 (sent[0] ^^^ 1)).set 1 (sent[1] ^^^ 1) ∧ (0x58 : Byte) = xorChecksum got) := by decide +kernel

theorem test_witness_PaddingInChecksum :
    ([] : List Byte).length ≤ 128 ∧ (List.replicate 128 (0x01 : Byte)).length ≤ 128 := by decide +kernel

theorem test_witness_PaddedBlockLayout :
    hello.length ≤ 128 ∧ (4 : Fin 128).val < hello.length ∧ hello.length ≤ (5 : Fin 128).val := by decide +kernel

/-- S9 of the one file "Hello", sent in one block. -/
def sentFile : State :=
  { snd .n9 .act with
    snd := { (snd .n9 .act).snd with off := 5, nblk := 1, srcOpen := true } }

theorem test_inv_sentFile : Inv sentFile :=
  ⟨by decide +kernel, by decide +kernel, by decide +kernel, by decide +kernel, by decide +kernel, by decide +kernel,
    by decide +kernel⟩

/-- S7 with the block "Hello" held. -/
theorem test_inv_held : Inv (held .n7 .act 3) :=
  ⟨by decide +kernel, by decide +kernel, by decide +kernel, by decide +kernel, by decide +kernel, by decide +kernel,
    by decide +kernel⟩

/-- R7 with nothing received of a block. -/
def receiving : State :=
  { rcv .n7 with rcv := { Rcv.reset with snkOpen := true }, rxq := [0x02] }

theorem test_inv_receiving : Inv receiving :=
  ⟨by decide +kernel, by decide +kernel, by decide +kernel, by decide +kernel, by decide +kernel, by decide +kernel,
    by decide +kernel⟩

theorem test_witness_BlockCountAtFileEnd : Inv sentFile ∧ sentFile.pos = .s9 := ⟨test_inv_sentFile, by decide⟩

theorem test_witness_SinkContents :
    sinkFiles [.host (.snkOpen (Vector.replicate 11 0x41)) .ok] = { name := Vector.replicate 11 0x41, content := [] } :: [] ∧
    (∀ name, Output.host .snkClose .ok ≠ .host (.snkOpen name) .ok) ∧
    (∀ blk, Output.host .snkClose .ok ≠ .host (.snkWrite blk) .ok) := by
  refine ⟨by decide +kernel, ?_, ?_⟩ <;> intro _ h <;> cases h

theorem test_witness_HostCodecLaws :
    (let stem : List Byte := [0x68, 0x69]
     let ext : List Byte := [0x74, 0x78, 0x74]
     dot ∉ stem ∧ dot ∉ ext ∧ stem.length ≤ 8 ∧ ext.length ≤ 3 ∧ ext ≠ [] ∧ stem.getLast? ≠ some 0x20 ∧
     ext.getLast? ≠ some 0x20 ∧ toWire (stem ++ dot :: ext) = some hiName) ∧
    (let stem : List Byte := List.replicate 8 0x61
     dot ∉ stem ∧ stem.length ≤ 8 ∧ stem.getLast? ≠ some 0x20 ∧
     toWire stem = some (List.replicate 8 0x41 ++ List.replicate 3 0x20)) := by decide +kernel

theorem test_witness_StepKeepsSenderInvariant :
    Inv (held .n7 .act 3) ∧ (after (step (held .n7 .act 3))).isSome = true := ⟨test_inv_held, by decide +kernel⟩

theorem test_witness_StepKeepsReceiverInvariant :
    Inv receiving ∧ (after (step receiving)).isSome = true := ⟨test_inv_receiving, by decide +kernel⟩

theorem test_witness_StepKeepsStatusTimerHandles :
    (Inv sentFile ∧ (after (step { sentFile with answers := [.ok, .ok] })).isSome = true) ∧
    Inv receiving ∧ (after (step receiving)).isSome = true :=
  ⟨⟨test_inv_sentFile, by decide +kernel⟩, test_witness_StepKeepsReceiverInvariant⟩

theorem test_witness_NoFaultUnderInvariant : Inv sentFile ∧ Inv receiving := ⟨test_inv_sentFile, test_inv_receiving⟩

/-- R7 with the timer expired, and R8 with a write that fails: two aborts with the invariant. -/
def timedOut : State := { receiving with rxq := [], ctl := { receiving.ctl with tmr := 2000 } }

theorem test_inv_timedOut : Inv timedOut :=
  ⟨by decide +kernel, by decide +kernel, by decide +kernel, by decide +kernel, by decide +kernel, by decide +kernel,
    by decide +kernel⟩

/-- S3 with the byte 'N' queued. -/
def refusedName : State := { snd .n3 .wait with rxq := [0x4E], snd := { (snd .n3 .wait).snd with srcOpen := true } }

theorem test_inv_refusedName : Inv refusedName :=
  ⟨by decide +kernel, by decide +kernel, by decide +kernel, by decide +kernel, by decide +kernel, by decide +kernel,
    by decide +kernel⟩

/-- S7 whose block cannot be read. -/
def unreadable : State :=
  { snd .n7 .act with answers := [.fail, .ok], snd := { (snd .n7 .act).snd with srcOpen := true } }

theorem test_inv_unreadable : Inv unreadable :=
  ⟨by decide +kernel, by decide +kernel, by decide +kernel, by decide +kernel, by decide +kernel, by decide +kernel,
    by decide +kernel⟩

/-- S8 with the bound used up and another 'B' queued. -/
def exhausted : State := { bounded with rxq := [0x42] }

theorem test_inv_exhausted : Inv exhausted :=
  ⟨by decide +kernel, by decide +kernel, by decide +kernel, by decide +kernel, by decide +kernel, by decide +kernel,
    by decide +kernel⟩

/-- One abort of each cause, from states that meet the invariant. -/
theorem test_witness_AbortCausesByState :
    (ended (step timedOut)).map (·.2.1) = some .timeout ∧ (ended (step refusedName)).map (·.2.1) = some .unexpected ∧
    (ended (step unreadable)).map (·.2.1) = some .fileIo ∧ (ended (step exhausted)).map (·.2.1) = some .retryLimit ∧
    (ended (step { receiving with line := .failed })).map (·.2.1) = some .lineIo ∧
    timedOut.ctl.aborted = false ∧ refusedName.ctl.aborted = false ∧ unreadable.ctl.aborted = false ∧
    exhausted.ctl.aborted = false := by decide +kernel

theorem test_witness_ConfigurationFixedInSession :
    (after (step (snd .n1 .act))).isSome = true ∧ (snd .n1 .act).ctl.busy = true ∧
    ∀ keep more, (snd .n1 .act).inputs ≠ .reset keep :: more := ⟨by decide +kernel, rfl, fun _ _ h => nomatch h⟩

/-- S8 with a block held and 'G' queued. -/
def acknowledging : State := { held .n8 .wait 128 with rxq := [0x47] }

theorem test_inv_acknowledging : Inv acknowledging :=
  ⟨by decide +kernel, by decide +kernel, by decide +kernel, by decide +kernel, by decide +kernel, by decide +kernel,
    by decide +kernel⟩

theorem test_witness_HeldBlockUnchanged :
    (Inv (held .n7 .act 3) ∧ (held .n7 .act 3).pos.isSender = true ∧ (held .n7 .act 3).snd.blkValid = true ∧
      (after (step (held .n7 .act 3))).map (fun t => (t.pos.isSender, t.snd.blkValid)) = some (true, true)) ∧
    Inv acknowledging ∧ acknowledging.pos.isSender = true ∧ acknowledging.snd.blkValid = true ∧
      (after (step acknowledging)).map (fun t => (t.pos.isSender, t.snd.blkValid)) = some (true, false) := ⟨⟨test_inv_held, by decide +kernel, by decide +kernel, by decide +kernel⟩, test_inv_acknowledging, by decide +kernel,
    by decide +kernel, by decide +kernel⟩

theorem test_witness_QueueDiscipline :
    (after (step receiving)).map (·.rxq) = some [] ∧
    (after (step { receiving with inputs := [.arrive 0x03] })).map (·.rxq) = some [0x02, 0x03] ∧
    (after (step { receiving with inputs := [.reset false] })).map (·.rxq) = some [] := by decide +kernel

theorem test_witness_OutputsOnlyAppended :
    State.reset.pos ∈ [Pos.idle, .done, .aborted] ∧ (after (step State.reset)).isSome = true := by decide +kernel

theorem test_witness_BlockStreamsIn128Steps :
    (held .n7 .act 0).Acts .s7 ∧ (held .n7 .act 0).line = .up ∧ (held .n7 .act 0).snd.blkValid = true ∧
    (held .n7 .act 0).snd.j = 0 := by decide +kernel

theorem test_witness_BlockReceivedIn128Steps :
    let s : State := { rcv .n7 with rxq := (Vector.replicate 128 (0x13 : Byte)).toList ++ [0x00] }
    s.Awaits .r7 ∧ s.inputs = [] ∧ s.line ≠ .failed ∧ s.rcv.j = 0 ∧ s.rcv.acc = 0 ∧
    s.rxq = (Vector.replicate 128 (0x13 : Byte)).toList ++ [0x00] := by decide +kernel

theorem test_witness_IdealLineDeliversInOrder :
    (after (step (snd .n1 .act))).isSome = true ∧ (after (step (rcv .n1))).isSome = true := by decide +kernel

end Sys2Proof.Tests
end

section
/-! The scope of the model (spec/00_scope.md): what a host operation records, which outputs a step adds, and when a
step can stop without a next state. One walk through the two state machines serves both O52 and O57: it says, of each
part of a step, that the outputs of before stand first and that a fault or a refusal needs a broken invariant. -/

namespace Sys2Proof.Machine

/-! ### The host's answer (R273) -/

theorem State.takeAnswer_of_cons {s : State} {a : Answer} {rest : List Answer} (h : s.answers = a :: rest) :
    s.takeAnswer = (a, { s with answers := rest }) := by
  simp [State.takeAnswer, h]

theorem State.takeAnswer_of_nil {s : State} (h : s.answers = []) :
    s.takeAnswer = (Config.hostAnswer s.draws, { s with draws := s.draws + 1 }) := by
  simp [State.takeAnswer, h]

theorem State.hostCall_of_cons {s : State} {a : Answer} {rest : List Answer} (h : s.answers = a :: rest)
    (op : HostOp) : s.hostCall op = (a, { s with answers := rest, trace := s.trace ++ [.host op a] }) := by
  rw [State.hostCall, State.takeAnswer_of_cons h]
  rfl

theorem State.hostCall_of_nil {s : State} (h : s.answers = []) (op : HostOp) :
    s.hostCall op =
      (Config.hostAnswer s.draws,
        { s with draws := s.draws + 1, trace := s.trace ++ [.host op (Config.hostAnswer s.draws)] }) := by
  rw [State.hostCall, State.takeAnswer_of_nil h]
  rfl

/-! ### Outputs are only added (R16) -/

theorem State.trace_prefix_emit (s : State) (o : Output) : s.trace <+: (s.emit o).trace := List.prefix_append _ _

theorem State.trace_prefix_hostCall (s : State) (op : HostOp) : s.trace <+: (s.hostCall op).2.trace := by simp

theorem State.prefix_trace_of_hostCall {old : List Output} {s t : State} {op : HostOp} {a : Answer}
    (h : s.hostCall op = (a, t)) (hs : old <+: s.trace) : old <+: t.trace := by
  simpa [h] using hs.trans (s.trace_prefix_hostCall op)

theorem State.trace_prefix_releaseHandles (s : State) : s.trace <+: s.releaseHandles.trace := by
  unfold State.releaseHandles
  split <;> split
  · exact s.trace_prefix_hostCall _
  · exact List.prefix_rfl
  · exact s.trace_prefix_hostCall _
  · exact List.prefix_rfl

theorem State.trace_prefix_abort (s : State) (c : Cause) : s.trace <+: (s.abort c).trace :=
  s.trace_prefix_releaseHandles

theorem State.trace_prefix_byteDelay (s : State) : s.trace <+: s.byteDelay.trace := by
  unfold State.byteDelay
  split
  · exact List.prefix_rfl
  · exact s.trace_prefix_emit _

@[simp] theorem State.tick_trace (s : State) : s.tick.trace = s.trace := by
  unfold State.tick; split <;> rfl

@[simp] theorem State.streamed_trace (s : State) : s.streamed.trace = s.trace := by
  unfold State.streamed; split <;> rfl

/-- Every state that this part of a step leads to has the outputs `old` first, and it stops with a fault or a refusal
only where `stop` holds. -/
def Flow.Appends (old : List Output) (stop : Prop) : Flow → Prop
  | .go t | .ended t | .stuck t => old <+: t.trace
  | .fault _ | .refused _ => stop

section
variable {old : List Output} {stop : Prop} {s : State}

theorem Flow.Appends.outcome {m : Flow} (h : m.Appends old stop) (hstop : ¬ stop) (before : State) :
    ∃ t, m.outcome before = .next t := by
  cases m with
  | go t | ended t => exact ⟨t, rfl⟩
  | stuck t => exact ⟨stuckState before t, rfl⟩
  | fault | refused => exact absurd h hstop

theorem Flow.Appends.trace_prefix {m : Flow} {before t : State} (h : m.Appends old stop)
    (ht : m.outcome before = .next t) : old <+: t.trace := by
  obtain rfl | rfl | ⟨u, rfl, rfl⟩ := Flow.outcome_eq_next ht
  · exact h
  · exact h
  · exact h

theorem State.abort_appends (hs : old <+: s.trace) (c : Cause) : (Flow.ended (s.abort c)).Appends old stop :=
  hs.trans (s.trace_prefix_abort c)

/-- A transmission (R66), and what follows it in a state where only the trace and the line differ. -/
theorem State.tx_andThen_appends (hs : old <+: s.trace) (b : Byte) {next : State → Flow}
    (h : ∀ tr l, old <+: tr → (next { s with trace := tr, line := l }).Appends old stop) :
    ((s.tx b).andThen next).Appends old stop := by
  obtain ⟨-, e⟩ | ⟨-, e⟩ | ⟨-, e⟩ | ⟨-, e⟩ := s.tx_cases b
  all_goals rw [e]
  · exact h _ _ (hs.trans (List.prefix_append _ _))
  · exact State.abort_appends (s := { s with line := .failed }) hs _
  · exact State.abort_appends hs _
  · exact hs

theorem State.reply_appends (hs : old <+: s.trace) (b : Byte) (st : St) : (s.reply b st).Appends old stop :=
  State.tx_andThen_appends hs b fun _ _ h => h

/-! ### The sender's parts of a step -/

/-- R173: the next file is refused only where it is below N and not in the list. -/
theorem State.nextFile_appends (hs : old <+: s.trace) {x : BitVec 16}
    (hx : x < s.snd.n → s.files[x.toNat]? = none → stop) : (s.nextFile x).Appends old stop := by
  unfold State.nextFile
  dsimp only
  split
  next hlt =>
    split
    next s2 hc => exact State.abort_appends (State.prefix_trace_of_hostCall hc hs) _
    next s2 hc =>
      obtain ⟨-, -, -, -, -, -, -, -, hf, -⟩ := State.hostCall_keeps hc
      have htr : old <+: s2.trace := State.prefix_trace_of_hostCall hc hs
      split
      next hnone => exact hx hlt (by simpa [hf] using hnone)
      next f _ => exact htr
  next => exact State.tx_andThen_appends (s := { s with snd := { s.snd with k := x } }) hs _ fun _ _ h => h

/-- R141: assembly stops only with no byte of the file left, or where the file source cannot yield the bytes it owes. -/
theorem State.assemble_appends (hs : old <+: s.trace) (hoff : ¬ s.snd.off < s.snd.len → stop)
    (hfile : s.files[s.snd.k.toNat]? = none → stop)
    (hread : ∀ f ∈ s.files[s.snd.k.toNat]?,
      (fileBytes f.data s.snd.off.toNat (blockBytes s.snd)).length ≠ blockBytes s.snd → stop) :
    s.assemble.Appends old stop := by
  unfold State.assemble
  split
  next hlt =>
    split
    next s1 hc => exact State.abort_appends (State.prefix_trace_of_hostCall hc hs) _
    next s1 hc =>
      obtain ⟨-, hsnd, -, -, -, -, -, -, hf, -⟩ := State.hostCall_keeps hc
      have htr : old <+: s1.trace := State.prefix_trace_of_hostCall hc hs
      rw [hf, hsnd]
      split
      next hnone => exact hfile hnone
      next f hsome =>
        split
        next => exact htr
        next hshort => exact hread f hsome hshort
  next hge => exact hoff hge

/-- R182: a payload byte has an index below 128, or the step stops. -/
theorem State.stream_appends (hs : old <+: s.trace) (hj : ¬ s.snd.j < 128 → stop) : s.stream.Appends old stop := by
  unfold State.stream
  split
  next hnone => exact hj (by simpa [BitVec.lt_def] using hnone)
  next b _ =>
    exact State.tx_andThen_appends (hs.trans s.trace_prefix_byteDelay) b fun _ _ h => by
      simpa [Flow.Appends] using h

/-! ### The receiver's parts of a step -/

theorem State.openSink_appends (hs : old <+: s.trace) : s.openSink.Appends old stop := by
  unfold State.openSink
  split
  next s1 hc =>
    have h1 : old <+: s1.trace := State.prefix_trace_of_hostCall hc hs
    exact State.reply_appends (by exact h1) _ _
  next s1 hc => exact State.reply_appends (State.prefix_trace_of_hostCall hc hs) _ _

theorem State.closeSink_appends (hs : old <+: s.trace) : s.closeSink.Appends old stop := by
  unfold State.closeSink
  split
  next s1 hc => exact State.abort_appends (State.prefix_trace_of_hostCall hc hs) _
  next s1 hc =>
    have h1 : old <+: s1.trace := State.prefix_trace_of_hostCall hc hs
    exact h1

theorem State.writeBlock_appends (hs : old <+: s.trace) : s.writeBlock.Appends old stop := by
  unfold State.writeBlock
  split
  next s1 hc => exact State.abort_appends (State.prefix_trace_of_hostCall hc hs) _
  next s1 hc =>
    have h1 : old <+: s1.trace := State.prefix_trace_of_hostCall hc hs
    exact State.reply_appends (by exact h1) _ _

end

/-! ### What the invariant rules out -/

section
variable {s : State}

/-- R28, R274: a file below N is in the list. -/
theorem Inv.listed_of_lt (h : Inv s) (hp : s.pos.isSender = true) {x : BitVec 16} (hx : x < s.snd.n) :
    s.files[x.toNat]? ≠ none := by
  obtain ⟨-, -, -, ⟨hlist, -⟩, -⟩ := h
  obtain ⟨-, hn⟩ := hlist hp
  simpa [← hn, BitVec.lt_def] using hx

/-- R29, R274: in S4 the current name has a byte at `i`. -/
theorem Inv.nameByte?_ne_none (h : Inv s) (hp : s.pos = .s4) : s.nameByte? ≠ none := by
  obtain ⟨-, -, -, ⟨hlist, -, hplace, -⟩, -, ⟨-, -, -, hi, -⟩, -⟩ := h
  obtain ⟨hadm, hn⟩ := hlist (by rw [hp]; rfl)
  obtain ⟨hk, -⟩ := hplace (by rw [hp]; rfl)
  have hlt : s.snd.k.toNat < s.files.length := hn ▸ hk
  have hlen : (s.files[s.snd.k.toNat]).name.length = 11 := by
    simp only [filesAdmitted, HostFile.admitted, Bool.and_eq_true, List.all_eq_true, decide_eq_true_eq] at hadm
    exact (hadm.2 _ (List.getElem_mem hlt)).1
  have hi11 : s.snd.i < 11 := hi hp
  simpa [State.nameByte?, List.getElem?_eq_getElem hlt, hlen, BitVec.lt_def] using hi11

/-- R141, R275: in S7 the file source can yield the bytes of the next block. -/
theorem Inv.block_readable (h : Inv s) (hp : s.pos = .s7) :
    ∃ f, s.files[s.snd.k.toNat]? = some f ∧
      (fileBytes f.data s.snd.off.toNat (blockBytes s.snd)).length = blockBytes s.snd := by
  obtain ⟨-, -, -, -, hblock, -⟩ := h
  obtain ⟨f, hf, hlen, -⟩ := hblock (by rw [hp]; rfl)
  exact ⟨f, hf, by simp only [fileBytes, blockBytes, hlen, List.length_take, List.length_drop]; omega⟩

end

/-! ### The ACT steps -/

theorem actS7_appends {s : State} (hp : s.pos = .s7) : (actS7 s).Appends s.trace (¬ Inv s) := by
  unfold actS7
  split
  next =>
    refine State.stream_appends List.prefix_rfl fun hj hinv => hj ?_
    obtain ⟨-, -, -, -, -, ⟨-, -, -, -, -, -, hs7, -⟩, -⟩ := hinv
    exact (hs7 hp).1
  next hvalid =>
    refine State.assemble_appends List.prefix_rfl (fun hoff hinv => hoff ?_) (fun hnone hinv => ?_)
      fun f hf hshort hinv => ?_
    · obtain ⟨-, -, -, -, -, ⟨-, -, -, -, -, -, hs7, -⟩, -⟩ := hinv
      exact ((hs7 hp).2 (by simpa using hvalid)).2
    · obtain ⟨f, hf, -⟩ := hinv.block_readable hp
      simp [hnone] at hf
    · obtain ⟨g, hg, hlen⟩ := hinv.block_readable hp
      obtain rfl : f = g := Option.some.inj (hf.symm.trans hg)
      exact hshort hlen

/-- R187: an ACT step only adds outputs, and stops only where the invariant is broken. -/
theorem actFlow_appends (s : State) : (actFlow s).Appends s.trace (¬ Inv s) := by
  have refl : s.trace <+: s.trace := List.prefix_rfl
  unfold actFlow
  cases hp : s.pos with
  | s1 | s3 | s5 | s8 => exact State.tx_andThen_appends refl _ fun _ _ h => h
  | s2 =>
    exact State.tx_andThen_appends refl _ fun _ _ h =>
      State.nextFile_appends h fun hx hnone hinv => hinv.listed_of_lt (by rw [hp]; rfl) hx hnone
  | s4 =>
    change (actS4 s).Appends _ _
    unfold actS4
    split
    next hnone => exact fun hinv => hinv.nameByte?_ne_none hp hnone
    next b _ => exact State.tx_andThen_appends refl _ fun _ _ h => h
  | s6 =>
    change (actS6 s).Appends _ _
    unfold actS6
    split
    · exact State.tx_andThen_appends refl _ fun _ _ h => h
    · exact State.tx_andThen_appends refl _ fun _ _ h => h
  | s7 => exact actS7_appends hp
  | s9 =>
    change (actS9 s).Appends _ _
    unfold actS9
    refine State.nextFile_appends ?_ fun hx hnone hinv => ?_
    · exact s.trace_prefix_hostCall (.srcClose s.snd.k)
    · exact hinv.listed_of_lt (by rw [hp]; rfl) (by simpa using hx) (by simpa using hnone)
  | r1 | r2 | r3 | r4 | r5 | r6 | r7 | r8 | idle | done | aborted | unused => exact refl

/-! ### The responses to a byte -/

theorem waitS4_appends {s : State} (hp : s.pos = .s4) (b : Byte) : (waitS4 b s).Appends s.trace (¬ Inv s) := by
  unfold waitS4
  split
  next hnone => exact fun hinv => hinv.nameByte?_ne_none hp hnone
  next e _ =>
    split
    · exact List.prefix_rfl
    · exact List.prefix_rfl

theorem waitS8_appends {stop : Prop} (s : State) (b : Byte) : (waitS8 b s).Appends s.trace stop := by
  unfold waitS8 State.negated
  split
  · exact List.prefix_rfl
  · split
    · split
      · exact State.abort_appends List.prefix_rfl _
      · exact List.prefix_rfl
    · exact State.abort_appends List.prefix_rfl _

theorem waitR3_appends {stop : Prop} (s : State) (b : Byte) : (waitR3 b s).Appends s.trace stop := by
  unfold waitR3
  split
  · exact State.tx_andThen_appends List.prefix_rfl _ fun _ _ h => h
  · split
    · exact List.prefix_rfl
    · exact State.reply_appends List.prefix_rfl _ _

theorem waitR4_appends {s : State} (hp : s.pos = .r4) (b : Byte) : (waitR4 b s).Appends s.trace (¬ Inv s) := by
  unfold waitR4
  split
  · split
    · exact State.tx_andThen_appends (s := s.storeName b) List.prefix_rfl _ fun _ _ h => h
    next hi =>
      refine fun hinv => hi ?_
      obtain ⟨-, -, -, -, -, -, ⟨hr4, -⟩⟩ := hinv
      exact (hr4 hp).1
  · exact State.reply_appends List.prefix_rfl _ _

theorem waitR6_appends {stop : Prop} (s : State) (b : Byte) : (waitR6 b s).Appends s.trace stop := by
  unfold waitR6
  split
  · exact State.tx_andThen_appends List.prefix_rfl _ fun _ _ h => h
  · split
    · exact State.closeSink_appends List.prefix_rfl
    · exact State.reply_appends List.prefix_rfl _ _

theorem waitR7_appends {s : State} (hp : s.pos = .r7) (b : Byte) : (waitR7 b s).Appends s.trace (¬ Inv s) := by
  unfold waitR7
  split
  · exact List.prefix_rfl
  next hj =>
    refine fun hinv => hj ?_
    obtain ⟨-, -, -, -, -, -, ⟨-, -, hr7, -⟩⟩ := hinv
    exact (hr7 hp).1

/-- R92, R93: the response to a byte only adds outputs, and stops only where the invariant is broken. -/
theorem respond_appends (b : Byte) (s : State) : (respond b s).Appends s.trace (¬ Inv s) := by
  have refl : s.trace <+: s.trace := List.prefix_rfl
  unfold respond
  cases hp : s.pos with
  | s1 | s5 =>
    dsimp only [waitS1, waitS5]
    split
    · exact refl
    · exact refl
  | s3 | s6 | r2 =>
    dsimp only [waitS3, waitS6, waitR2]
    split
    · exact refl
    · exact State.abort_appends refl _
  | s4 => exact waitS4_appends hp b
  | s8 => exact waitS8_appends s b
  | r1 =>
    dsimp only [waitR1]
    split
    · exact State.reply_appends refl _ _
    · exact refl
  | r3 => exact waitR3_appends s b
  | r4 => exact waitR4_appends hp b
  | r5 =>
    dsimp only [waitR5]
    split
    · exact State.openSink_appends refl
    · exact State.reply_appends refl _ _
  | r6 => exact waitR6_appends s b
  | r7 => exact waitR7_appends hp b
  | r8 =>
    dsimp only [waitR8]
    split
    · exact State.writeBlock_appends refl
    · exact State.reply_appends (by exact refl) _ _
  | s2 | s7 | s9 | idle | done | aborted | unused => exact refl

/-! ### The byte that a WAIT step takes (R80, R83) -/

/-- R80: a symbol that control decoding reads is an entry of the alphabet with that byte. -/
theorem mem_alphabet_of_decodeControl {p : Pos} {b : Byte} {i : Instr} (h : decodeControl p b = .ok i) :
    (b, i) ∈ alphabet p := by
  unfold decodeControl at h
  split at h
  next i' hl =>
    obtain rfl := Except.ok.inj h
    obtain ⟨l₁, l₂, heq, -⟩ := List.lookup_eq_some_iff.1 hl
    simp [heq]
  next => cases h

/-- R81: whichever of its two names 'G' has in a state, it runs the state's response to 0x47. -/
theorem exec_gMeaning (p : Pos) (s : State) : exec (gMeaning p) s = receive 0x47 s := by
  unfold gMeaning
  split
  · rfl
  · rfl

/-- R80: each symbol of the alphabet runs the state's response to its byte. -/
theorem exec_of_mem_alphabet {p : Pos} {b : Byte} {i : Instr} (h : (b, i) ∈ alphabet p) (s : State) :
    exec i s = receive b s := by
  simp only [alphabet, List.cons_append, List.nil_append, List.mem_cons, List.not_mem_nil, or_false,
    Prod.mk.injEq] at h
  obtain ⟨rfl, rfl⟩ | ⟨rfl, rfl⟩ | ⟨rfl, rfl⟩ | ⟨rfl, rfl⟩ | ⟨rfl, rfl⟩ | ⟨rfl, rfl⟩ | ⟨rfl, rfl⟩ | ⟨rfl, rfl⟩ |
    ⟨rfl, rfl⟩ | ⟨rfl, rfl⟩ | ⟨rfl, rfl⟩ | ⟨rfl, rfl⟩ | ⟨rfl, rfl⟩ | ⟨rfl, rfl⟩ | ⟨rfl, rfl⟩ := h
  case inr.inr.inr.inr.inr.inr.inr.inr.inr.inl => exact exec_gMeaning p s
  all_goals rfl

/-- R83, R92: what the decoder reads from a byte of the line runs the state's response to that byte. -/
theorem exec_of_decodeLine {p : Pos} {b : Byte} {i : Instr} (h : decodeLine p b = .ok i) (s : State) :
    exec i s = receive b s := by
  unfold decodeLine at h
  cases hr : p.reading with
  | control => exact exec_of_mem_alphabet (mem_alphabet_of_decodeControl (by simpa [hr] using h)) s
  | name | checksum =>
    obtain rfl := Except.ok.inj (by simpa only [hr] using h)
    rfl
  | payload =>
    obtain rfl := Except.ok.inj (by simpa only [hr] using h)
    unfold decodePayload
    split
    next hpad => exact hpad ▸ rfl
    next => rfl
  | nothing => simp [hr] at h

/-- R92: named or not, a byte taken from the queue gets the response of the state. -/
theorem runByte_eq_receive (b : Byte) (s : State) : runByte b s = receive b s := by
  unfold runByte
  split
  next i h => exact exec_of_decodeLine h s
  next => rfl

/-! ### What one move of the endpoint can do -/

/-- Everything the engine's turn in `s` can answer (R66, R309, R312, R341). -/
inductive EngineTurn (s : State) : Host.Outcome State Fault Refusal → Prop
  | quiescent (hp : s.pos = .idle ∨ s.pos = .done ∨ s.pos = .aborted) : EngineTurn s (.next s)
  | unusedCode (hp : s.pos = .unused) : EngineTurn s (.refused .unusedStateCode)
  | stuckWaits {p : Pending} (hp : s.pos.inSession = true) (hs : s.stuck = some p) (hl : s.line ≠ .failed) :
    EngineTurn s (.next s)
  | stuckFails {p : Pending} (hp : s.pos.inSession = true) (hs : s.stuck = some p) (hl : s.line = .failed) :
    EngineTurn s (.next ((s.withPending p).abort .lineIo))
  | lineFails (hp : s.pos.inSession = true) (hs : s.stuck = none) (hl : s.line = .failed) :
    EngineTurn s (.next (s.abort .lineIo))
  | receives {b : Byte} {rest : List Byte} (hl : s.line ≠ .failed) (hw : s.listening = true)
    (hq : s.rxq = b :: rest) : EngineTurn s ((respond b { s with rxq := rest }).outcome { s with rxq := rest })
  | timesOut (hl : s.line ≠ .failed) (hw : s.listening = true) (hq : s.rxq = []) (ht : s.ctl.tmr = s.ctl.tlim) :
    EngineTurn s (.next (s.abort .timeout))
  | waits (hl : s.line ≠ .failed) (hw : s.listening = true) (hq : s.rxq = []) (ht : s.ctl.tmr ≠ s.ctl.tlim) :
    EngineTurn s (.next s.tick)
  | acts (hp : s.pos.inSession = true) (hs : s.stuck = none) (hl : s.line ≠ .failed) (hw : s.listening = false) :
    EngineTurn s ((actFlow s).outcome s)

theorem waitStep_turn {s : State} (hl : s.line ≠ .failed) (hw : s.listening = true) :
    EngineTurn s (waitStep s) := by
  unfold waitStep
  split
  next b rest hq =>
    have hw' : State.listening { s with rxq := rest } = true := hw
    rw [runByte_eq_receive, receive_of_listening hw']
    exact .receives hl hw hq
  next hq =>
    split
    next ht => exact .timesOut hl hw hq ht
    next ht => exact .waits hl hw hq ht

theorem busyStep_turn {s : State} (hp : s.pos.inSession = true) (hs : s.stuck = none) :
    EngineTurn s (busyStep s) := by
  unfold busyStep
  split
  next hl => exact .lineFails hp hs hl
  next hl =>
    split
    next hw => exact waitStep_turn hl hw
    next hw => exact .acts hp hs hl (by simpa using hw)

theorem stuckStep_turn {s : State} {p : Pending} (hp : s.pos.inSession = true) (hs : s.stuck = some p) :
    EngineTurn s (stuckStep p s) := by
  unfold stuckStep
  split
  next hl => exact .stuckFails hp hs hl
  next hl => exact .stuckWaits hp hs hl

/-- What the engine's turn answers is one of the cases of `EngineTurn`. -/
theorem engineStep_turn (s : State) : EngineTurn s (engineStep s) := by
  have hpos : (s.pos = .idle ∨ s.pos = .done ∨ s.pos = .aborted) ∨ s.pos = .unused ∨ s.pos.inSession = true := by
    cases s.pos <;> decide
  rcases hpos with hq | hu | hp
  · exact engineStep_quiescent hq ▸ .quiescent hq
  · have e : engineStep s = .refused .unusedStateCode := by simp [engineStep, hu]
    exact e ▸ .unusedCode hu
  · cases hs : s.stuck with
    | none => exact engineStep_of_inSession hp hs ▸ busyStep_turn hp hs
    | some p => exact engineStep_of_stuck hp hs ▸ stuckStep_turn hp hs

/-- R16: the engine's turn keeps the outputs of before, at the front. -/
theorem EngineTurn.trace_prefix {s t : State} {o : Host.Outcome State Fault Refusal} (h : EngineTurn s o)
    (ht : o = .next t) : s.trace <+: t.trace := by
  cases h with
  | quiescent | stuckWaits =>
    obtain rfl := Host.Outcome.next.inj ht
    exact List.prefix_rfl
  | unusedCode => cases ht
  | stuckFails =>
    obtain rfl := Host.Outcome.next.inj ht
    exact State.trace_prefix_abort (s.withPending _) _
  | lineFails | timesOut =>
    obtain rfl := Host.Outcome.next.inj ht
    exact s.trace_prefix_abort _
  | @receives b rest => exact (respond_appends b { s with rxq := rest }).trace_prefix ht
  | waits =>
    obtain rfl := Host.Outcome.next.inj ht
    simp
  | acts => exact (actFlow_appends s).trace_prefix ht

/-- R16, R61, R93: under the invariant the engine's turn has a next state. -/
theorem EngineTurn.exists_next {s : State} {o : Host.Outcome State Fault Refusal} (h : EngineTurn s o) (hinv : Inv s) :
    ∃ t, o = .next t := by
  cases h with
  | quiescent | stuckWaits | stuckFails | lineFails | timesOut | waits => exact ⟨_, rfl⟩
  | unusedCode hu =>
    obtain ⟨⟨hused, -⟩, -⟩ := hinv
    exact absurd hu hused
  | @receives b rest => exact (respond_appends b { s with rxq := rest }).outcome (not_not_intro hinv) _
  | acts => exact (actFlow_appends s).outcome (not_not_intro hinv) _

theorem decodeCtrl_cases (w : Word) :
    decodeCtrl w = .ok .startSend ∨ decodeCtrl w = .ok .startRecv ∨ decodeCtrl w = .error .noStartBit := by
  unfold decodeCtrl
  split
  · split
    · exact .inr (.inl rfl)
    · exact .inl rfl
  · exact .inr (.inr rfl)

/-- R45, R270: a register write runs one of the two commands, or is a configuration write. -/
theorem hostWrite_cases (idx : Nat) (v : Word) (s : State) :
    hostWrite idx v s = execStartSend s ∨ hostWrite idx v s = execStartRecv s ∨
      hostWrite idx v s = .next (s.writeCfg idx v) := by
  unfold hostWrite decode
  split
  · obtain e | e | e := decodeCtrl_cases v
    · exact .inl (by simp only [e, exec])
    · exact .inr (.inl (by simp only [e, exec]))
    · exact .inr (.inr (by simp only [e]))
  · exact .inr (.inr rfl)

/-- What the environment's moves have in common: a next state that keeps the outputs or adds one register read (R325),
or one of the two refusals about the file list (R274). -/
def EnvMoved (s : State) (o : Host.Outcome State Fault Refusal) : Prop :=
  (∃ t, o = .next t ∧ (t.trace = s.trace ∨ ∃ idx v, t.trace = s.trace ++ [.regRead idx v])) ∨
  o = .refused .fileListNotAdmitted ∨ o = .refused .fileListChangedWhileBusy

theorem EnvMoved.of_trace_eq {s t : State} (h : t.trace = s.trace) : EnvMoved s (.next t) := .inl ⟨t, rfl, .inl h⟩

theorem hostWrite_moved (idx : Nat) (v : Word) (s : State) : EnvMoved s (hostWrite idx v s) := by
  obtain e | e | e := hostWrite_cases idx v s
  all_goals rw [e]
  · unfold execStartSend
    split
    · exact .of_trace_eq rfl
    · split
      · exact .of_trace_eq rfl
      · exact .inr (.inl rfl)
  · unfold execStartRecv
    split
    · exact .of_trace_eq rfl
    · exact .of_trace_eq rfl
  · unfold State.writeCfg
    split
    · exact .of_trace_eq rfl
    · exact .of_trace_eq rfl

theorem setLine_moved (l : Line) (s : State) : EnvMoved s (.next (setLine l s)) := by
  obtain e | ⟨-, e⟩ := setLine_cases l s
  all_goals rw [e]
  · exact .of_trace_eq rfl
  · exact .of_trace_eq rfl

/-- R278, R325: every input but the engine's turn is a move of the environment. -/
theorem applyInput_moved {m : Input} (hm : m ≠ .turn) (s : State) : EnvMoved s (applyInput m s) := by
  cases m with
  | turn => exact absurd rfl hm
  | arrive | lineFail | reset => exact .of_trace_eq rfl
  | tick => exact .of_trace_eq s.tick_trace
  | lineFailAfter | lineStallAfter | lineUp => exact setLine_moved _ s
  | write idx v => exact hostWrite_moved idx v s
  | read idx => exact .inl ⟨_, rfl, .inr ⟨idx, _, rfl⟩⟩
  | setFiles files =>
    change EnvMoved s (hostFiles files s)
    unfold hostFiles
    split
    · exact .inr (.inr rfl)
    · exact .of_trace_eq rfl

/-- A step is the engine's turn or a move of its environment, up to the list of inputs. -/
theorem step_eq_turn_or_moved (s : State) :
    (∃ more, step s = engineStep { s with inputs := more }) ∨ EnvMoved s (step s) := by
  cases hi : s.inputs with
  | nil => exact .inl ⟨[], by rw [step_nil hi, ← hi]⟩
  | cons m more =>
    rw [step_cons hi]
    by_cases hm : m = .turn
    · exact .inl ⟨more, by rw [hm]; rfl⟩
    · exact .inr (applyInput_moved hm { s with inputs := more })

/-! ### The obligations -/

/-- Settles O52: every stop of the two state machines needs a broken invariant. -/
theorem noFaultUnderInvariant : Obligations.NoFaultUnderInvariant := by
  intro s hinv
  obtain ⟨more, e⟩ | ⟨t, ht, -⟩ | h := step_eq_turn_or_moved s
  · exact .inl (e ▸ (engineStep_turn { s with inputs := more }).exists_next hinv)
  · exact .inl ⟨t, ht⟩
  · exact .inr h

/-- Settles O57: the engine's turn only appends and is quiescent outside a session; the environment's moves append at
most a register read. -/
theorem outputsOnlyAppended : Obligations.OutputsOnlyAppended := by
  intro s t ht
  obtain ⟨more, e⟩ | hmoved := step_eq_turn_or_moved s
  · have hturn : engineStep { s with inputs := more } = .next t := e ▸ ht
    obtain ⟨new, hnew⟩ := (engineStep_turn { s with inputs := more }).trace_prefix hturn
    refine ⟨⟨new, hnew.symm⟩, fun hp => ?_⟩
    have hpos : s.pos = .idle ∨ s.pos = .done ∨ s.pos = .aborted := by simpa using hp
    have hquiet : engineStep { s with inputs := more } = .next { s with inputs := more } := engineStep_quiescent hpos
    obtain rfl := Host.Outcome.next.inj (hquiet.symm.trans hturn)
    rfl
  · rw [ht] at hmoved
    obtain ⟨u, hu, hsame | ⟨idx, v, hread⟩⟩ | h | h := hmoved
    · obtain rfl := Host.Outcome.next.inj hu
      exact ⟨⟨[], by simp [hsame]⟩, fun _ => by rw [hsame]⟩
    · obtain rfl := Host.Outcome.next.inj hu
      exact ⟨⟨_, hread⟩, fun _ => by rw [hread, txBytes_append]; exact List.append_nil _⟩
    · cases h
    · cases h

/-- Settles O32: the answer is the next listed one, or the free one where none is listed. -/
theorem hostCallRecorded : Obligations.HostCallRecorded := fun _ op =>
  ⟨fun _ _ h => State.hostCall_of_cons h op, fun h => State.hostCall_of_nil h op⟩

end Sys2Proof.Machine
end

section
/-! The state of an endpoint (spec/10_state.md). First what one step can do, said once as relations between the state
before and the state after (`ActMove`, `SenderMove`, `ReceiverMove`, `EnvMove`, `StepMove`); then the invariant, carried
over each of those moves; then the register port. -/

namespace Sys2Proof.Machine

/-! ### Where a part of a step can stand -/

/-- `t` differs from `s` at most in what a step meets outside the engine: outputs, line and host answers. -/
def State.UpToIO (s t : State) : Prop :=
  ∃ trace line answers draws, t = { s with trace := trace, line := line, answers := answers, draws := draws }

theorem State.UpToIO.refl (s : State) : s.UpToIO s := ⟨_, _, _, _, rfl⟩

theorem State.UpToIO.of_hostCall {s t : State} {op : HostOp} {a : Answer} (h : s.hostCall op = (a, t)) :
    s.UpToIO t := by
  obtain ⟨hctl, hsnd, hrcv, hname, hblk, hcfg, hrxq, -, hfiles, -, hinputs, hstuck⟩ := State.hostCall_keeps h
  refine ⟨t.trace, t.line, t.answers, t.draws, ?_⟩
  cases t
  simp_all

theorem State.UpToIO.hostCall (s : State) (op : HostOp) : s.UpToIO (s.hostCall op).2 := .of_hostCall rfl

theorem State.UpToIO.byteDelay (s : State) : s.UpToIO s.byteDelay := by
  unfold State.byteDelay
  split
  · exact .refl s
  · exact ⟨_, _, _, _, rfl⟩

/-- A state `m` in which a step that began in `s` can abort or be stuck: the state code, the configuration, the file
list and the registers of the role that does not run are still those of `s`. -/
structure MidStep (s m : State) : Prop where
  roleAct : m.ctl.roleAct = s.ctl.roleAct
  st : m.ctl.st = s.ctl.st
  done : m.ctl.done = s.ctl.done
  rcv : s.ctl.roleAct = .sender → m.rcv = s.rcv
  snd : s.ctl.roleAct = .receiver → m.snd = s.snd
  cfg : m.cfg = s.cfg
  files : m.files = s.files

theorem MidStep.refl (s : State) : MidStep s s := ⟨rfl, rfl, rfl, fun _ => rfl, fun _ => rfl, rfl, rfl⟩

theorem MidStep.upToIO {s m t : State} (h : MidStep s m) (ht : m.UpToIO t) : MidStep s t := by
  obtain ⟨tr, l, a, d, rfl⟩ := ht
  exact { h with }

/-- R21: a sender's step writes no receiver register. -/
theorem MidStep.sender {s : State} (h : s.ctl.roleAct = .sender) (snd : Snd) (filesDone : BitVec 16) :
    MidStep s { s with snd := snd, ctl := { s.ctl with filesDone := filesDone } } :=
  ⟨rfl, rfl, rfl, fun _ => rfl, fun hr => by simp [h] at hr, rfl, rfl⟩

/-- R21: a receiver's step writes no sender register. -/
theorem MidStep.receiver {s : State} (h : s.ctl.roleAct = .receiver) (rcv : Rcv) (name : Vector Byte 11) :
    MidStep s { s with rcv := rcv, name := name } :=
  ⟨rfl, rfl, rfl, fun hr => by simp [h] at hr, fun _ => rfl, rfl, rfl⟩

/-- Where a step that began in `s` can lead: to a state of `R` (up to its outputs, the line and the answers), to an
abort, or into a stuck transmission. -/
def Flow.Leads (s : State) (R : State → Prop) : Flow → Prop
  | .go t => ∃ u, R u ∧ u.UpToIO t
  | .ended t => (∃ u, R u ∧ u.UpToIO t) ∨ ∃ m c, MidStep s m ∧ c ≠ .none ∧ t = m.abort c
  | .stuck m => MidStep s m
  | .fault _ | .refused _ => True

section
variable {s m : State} {R : State → Prop}

theorem Flow.Leads.go (h : R m) {t : State} (ht : m.UpToIO t) : (Flow.go t).Leads s R := ⟨m, h, ht⟩

theorem Flow.Leads.abort (hm : MidStep s m) {c : Cause} (hc : c ≠ .none) : (Flow.ended (m.abort c)).Leads s R :=
  .inr ⟨m, c, hm, hc, rfl⟩

/-- R66: a transmission leads on with another trace and line, aborts, or is stuck. -/
theorem State.tx_leads (hm : MidStep s m) (b : Byte) {next : State → Flow}
    (h : ∀ tr l, (next { m with trace := tr, line := l }).Leads s R) : ((m.tx b).andThen next).Leads s R := by
  obtain ⟨-, e⟩ | ⟨-, e⟩ | ⟨-, e⟩ | ⟨-, e⟩ := m.tx_cases b
  all_goals rw [e]
  · exact h _ _
  · exact .abort (hm.upToIO ⟨_, _, _, _, rfl⟩) (by decide)
  · exact .abort hm (by decide)
  · exact hm

theorem State.reply_leads (hm : MidStep s m) (b : Byte) {st : St} (h : R (m.enter st)) : (m.reply b st).Leads s R :=
  State.tx_leads hm b fun _ _ => .go h ⟨_, _, _, _, rfl⟩

end

/-! ### The sender's moves -/

/-- R185: S9 has closed the file and counted it. -/
def State.fileClosed (s : State) : State :=
  { s with snd := { s.snd with srcOpen := false }, ctl := { s.ctl with filesDone := s.ctl.filesDone + 1 } }

/-- R173: the file sequencer stands at file `x`. -/
def State.atFile (s : State) (x : BitVec 16) : State := { s with snd := { s.snd with k := x } }

/-- Where `next_file(x)` leads when it neither aborts nor is stuck (R173). -/
inductive NextFile (s : State) (x : BitVec 16) : State → Prop
  | opens {f : HostFile} (hx : x < s.snd.n) (hf : s.files[x.toNat]? = some f) :
    NextFile s x (((s.atFile x).openedFile f).goTo .n3)
  | finishes (hx : ¬ x < s.snd.n) : NextFile s x (s.atFile x).finish

/-- Where an ACT step of the sender in `s` leads when it neither aborts nor is stuck (R170 to R185). -/
inductive ActMove (s : State) : State → Prop
  | s1 (hp : s.pos = .s1) : ActMove s (s.await handshakeLimit)
  | s2 (hp : s.pos = .s2) {u : State} (hu : NextFile s 0 u) : ActMove s u
  | s3 (hp : s.pos = .s3) : ActMove s ({ s with snd := { s.snd with i := 0 } }.await byteLimit)
  | s4 (hp : s.pos = .s4) : ActMove s (s.await byteLimit)
  | s5 (hp : s.pos = .s5) : ActMove s (s.await byteLimit)
  | s6Ends (hp : s.pos = .s6) (he : atEof s.snd = true) : ActMove s (s.goTo .n9)
  | s6Announces (hp : s.pos = .s6) (he : atEof s.snd = false) : ActMove s (s.await byteLimit)
  | s7Streams (hp : s.pos = .s7) (hv : s.snd.blkValid = true) : ActMove s s.streamed
  | s7Assembles (hp : s.pos = .s7) (hv : s.snd.blkValid = false) {f : HostFile}
    (hf : s.files[s.snd.k.toNat]? = some f)
    (hlen : (fileBytes f.data s.snd.off.toNat (blockBytes s.snd)).length = blockBytes s.snd) :
    ActMove s (s.assembled (fileBytes f.data s.snd.off.toNat (blockBytes s.snd)))
  | s8 (hp : s.pos = .s8) : ActMove s (s.await byteLimit)
  | s9 (hp : s.pos = .s9) {u : State} (hu : NextFile s.fileClosed (s.snd.k + 1) u) : ActMove s u

/-- Where the sender's response in `s` to byte `b` leads when it does not abort (R171 to R184). -/
inductive SenderMove (b : Byte) (s : State) : State → Prop
  | s1Ready (hp : s.pos = .s1) : SenderMove b s (s.goTo .n2)
  | s1Again (hp : s.pos = .s1) : SenderMove b s (s.goTo .n1)
  | s3 (hp : s.pos = .s3) : SenderMove b s (s.goTo .n4)
  | s4Echoed (hp : s.pos = .s4) : SenderMove b s s.echoed
  | s4Restarts (hp : s.pos = .s4) : SenderMove b s (s.goTo .n3)
  | s5Ready (hp : s.pos = .s5) : SenderMove b s (s.goTo .n6)
  | s5Restarts (hp : s.pos = .s5) : SenderMove b s (s.goTo .n3)
  | s6 (hp : s.pos = .s6) : SenderMove b s ({ s with snd := { s.snd with j := 0 } }.goTo .n7)
  | s8Acknowledged (hp : s.pos = .s8) (hb : b = 0x47) : SenderMove b s s.acknowledged
  | s8Negated (hp : s.pos = .s8) (hr : ¬ (s.cfg.retryLimit ≠ 0 ∧ s.snd.retry = s.cfg.retryLimit)) :
    SenderMove b s ({ s with snd := { s.snd with retry := satInc s.snd.retry } }.goTo .n6)

/-- R22: the role of a position of the sender. -/
theorem State.roleAct_of_isSender {s : State} (h : s.pos.isSender = true) : s.ctl.roleAct = .sender := by
  revert h
  unfold State.pos
  cases s.ctl.st <;> cases s.ctl.roleAct <;> simp [Pos.isSender]

/-- R22: the role of a position of the receiver. -/
theorem State.roleAct_of_isReceiver {s : State} (h : s.pos.isReceiver = true) : s.ctl.roleAct = .receiver := by
  revert h
  unfold State.pos
  cases s.ctl.st <;> cases s.ctl.roleAct <;> simp [Pos.isReceiver]

/-- R173: everything `next_file(x)` can do, from a state `m` that the step has come to. -/
theorem State.nextFile_leads {s m base : State} {x : BitVec 16} (hrole : s.ctl.roleAct = .sender)
    (hm : MidStep s base) (hio : base.UpToIO m) : (m.nextFile x).Leads s (NextFile base x) := by
  obtain ⟨tr, l, a, d, rfl⟩ := hio
  have hat : MidStep s (base.atFile x) :=
    { hm with snd := fun hr => by simp [hrole] at hr }
  unfold State.nextFile
  dsimp only
  split
  next hx =>
    split
    next t hc =>
      obtain ⟨_, _, _, _, rfl⟩ := State.UpToIO.of_hostCall hc
      exact .abort (hat.upToIO ⟨_, _, _, _, rfl⟩) (by decide)
    next t hc =>
      obtain ⟨_, _, _, _, rfl⟩ := State.UpToIO.of_hostCall hc
      split
      next => trivial
      next f hf => exact .go (.opens hx hf) ⟨_, _, _, _, rfl⟩
  next hx =>
    exact State.tx_leads (hat.upToIO ⟨tr, l, a, d, rfl⟩) _ fun _ _ => .inl ⟨_, .finishes hx, _, _, _, _, rfl⟩

theorem Flow.Leads.mono {s : State} {R R' : State → Prop} {m : Flow} (h : m.Leads s R) (hR : ∀ u, R u → R' u) :
    m.Leads s R' := by
  cases m with
  | go t =>
    obtain ⟨u, hu, ht⟩ := h
    exact ⟨u, hR u hu, ht⟩
  | ended t =>
    obtain ⟨u, hu, ht⟩ | h := h
    · exact .inl ⟨u, hR u hu, ht⟩
    · exact .inr h
  | stuck | fault | refused => exact h

theorem State.stream_leads {s : State} (hp : s.pos = .s7) (hv : s.snd.blkValid = true) :
    s.stream.Leads s (ActMove s) := by
  unfold State.stream
  split
  next => trivial
  next b _ =>
    have hd := State.UpToIO.byteDelay s
    refine State.tx_leads ((MidStep.refl s).upToIO hd) b fun _ _ => .go (.s7Streams hp hv) ?_
    obtain ⟨_, _, _, _, e⟩ := hd
    rw [e]
    unfold State.streamed
    dsimp only
    split
    · exact ⟨_, _, _, _, rfl⟩
    · exact ⟨_, _, _, _, rfl⟩

theorem State.assemble_leads {s : State} (hp : s.pos = .s7) (hv : s.snd.blkValid = false) :
    s.assemble.Leads s (ActMove s) := by
  unfold State.assemble
  split
  next =>
    split
    next t hc => exact .abort ((MidStep.refl s).upToIO (.of_hostCall hc)) (by decide)
    next t hc =>
      obtain ⟨_, _, _, _, rfl⟩ := State.UpToIO.of_hostCall hc
      dsimp only
      split
      next => trivial
      next f hf =>
        split
        next hlen => exact .go (.s7Assembles hp hv hf hlen) ⟨_, _, _, _, rfl⟩
        next => trivial
  next => trivial

/-- R187: everything an ACT step of the sender can do. -/
theorem actFlow_leads {s : State} (h : s.pos.isSender = true) : (actFlow s).Leads s (ActMove s) := by
  have hrole := State.roleAct_of_isSender h
  unfold actFlow
  cases hp : s.pos with
  | s1 => exact State.tx_leads (.refl s) _ fun _ _ => .go (.s1 hp) ⟨_, _, _, _, rfl⟩
  | s2 =>
    exact State.tx_leads (.refl s) _ fun _ _ =>
      (State.nextFile_leads hrole (.refl s) ⟨_, _, _, _, rfl⟩).mono fun _ => .s2 hp
  | s3 => exact State.tx_leads (.refl s) _ fun _ _ => .go (.s3 hp) ⟨_, _, _, _, rfl⟩
  | s4 =>
    dsimp only [actS4]
    split
    next => trivial
    next => exact State.tx_leads (.refl s) _ fun _ _ => .go (.s4 hp) ⟨_, _, _, _, rfl⟩
  | s5 => exact State.tx_leads (.refl s) _ fun _ _ => .go (.s5 hp) ⟨_, _, _, _, rfl⟩
  | s6 =>
    dsimp only [actS6]
    split
    next he => exact State.tx_leads (.refl s) _ fun _ _ => .go (.s6Ends hp he) ⟨_, _, _, _, rfl⟩
    next he =>
      exact State.tx_leads (.refl s) _ fun _ _ => .go (.s6Announces hp (by simpa using he)) ⟨_, _, _, _, rfl⟩
  | s7 =>
    dsimp only [actS7]
    split
    next hv => exact State.stream_leads hp hv
    next hv => exact State.assemble_leads hp (by simpa using hv)
  | s8 => exact State.tx_leads (.refl s) _ fun _ _ => .go (.s8 hp) ⟨_, _, _, _, rfl⟩
  | s9 =>
    dsimp only [actS9]
    obtain ⟨tr, l, a, d, e⟩ := State.UpToIO.hostCall s (.srcClose s.snd.k)
    rw [e]
    exact (State.nextFile_leads (base := s.fileClosed) hrole (.sender hrole _ _) ⟨tr, l, a, d, rfl⟩).mono
      fun u => .s9 hp
  | r1 | r2 | r3 | r4 | r5 | r6 | r7 | r8 | idle | done | aborted | unused => simp [hp, Pos.isSender] at h

/-- R92: everything the sender's response to a byte can do. -/
theorem respond_leads_of_isSender {s : State} (h : s.pos.isSender = true) (hr : s.pos.reading ≠ .nothing) (b : Byte) :
    (respond b s).Leads s (SenderMove b s) := by
  unfold respond
  cases hp : s.pos with
  | s1 =>
    dsimp only [waitS1]
    split
    · exact .go (.s1Ready hp) (.refl _)
    · exact .go (.s1Again hp) (.refl _)
  | s3 =>
    dsimp only [waitS3]
    split
    · exact .go (.s3 hp) (.refl _)
    · exact .abort (.refl s) (by decide)
  | s4 =>
    dsimp only [waitS4]
    split
    next => trivial
    next =>
      split
      · exact .go (.s4Echoed hp) (.refl _)
      · exact .go (.s4Restarts hp) (.refl _)
  | s5 =>
    dsimp only [waitS5]
    split
    · exact .go (.s5Ready hp) (.refl _)
    · exact .go (.s5Restarts hp) (.refl _)
  | s6 =>
    dsimp only [waitS6]
    split
    · exact .go (.s6 hp) (.refl _)
    · exact .abort (.refl s) (by decide)
  | s8 =>
    dsimp only [waitS8, State.negated]
    split
    next hb => exact .go (.s8Acknowledged hp hb) (.refl _)
    next =>
      split
      next =>
        split
        next => exact .abort (.refl s) (by decide)
        next hbound => exact .go (.s8Negated hp hbound) (.refl _)
      next => exact .abort (.refl s) (by decide)
  | s2 | s7 | s9 => simp [hp, Pos.reading] at hr
  | r1 | r2 | r3 | r4 | r5 | r6 | r7 | r8 | idle | done | aborted | unused => simp [hp, Pos.isSender] at h

/-! ### The receiver's moves -/

/-- Where the receiver's response in `s` to byte `b` leads when it neither aborts nor is stuck (R222 to R229). -/
inductive ReceiverMove (b : Byte) (s : State) : State → Prop
  | r1Ready (hp : s.pos = .r1) : ReceiverMove b s (s.enter .n2)
  | r1Again (hp : s.pos = .r1) : ReceiverMove b s (s.enter .n1)
  | r2 (hp : s.pos = .r2) : ReceiverMove b s (s.enter .n3)
  | r3Named (hp : s.pos = .r3) : ReceiverMove b s ({ s with rcv := { s.rcv with i := 0 } }.enter .n4)
  | r3Finishes (hp : s.pos = .r3) : ReceiverMove b s s.finish
  | r3Rejects (hp : s.pos = .r3) : ReceiverMove b s (s.enter .n3)
  | r4Accepts (hp : s.pos = .r4) (hb : validNameByte s.cfg.rejectMask b = true) (hi : s.rcv.i < 11) :
    ReceiverMove b s (s.storeName b).named
  | r4Rejects (hp : s.pos = .r4) : ReceiverMove b s (s.enter .n3)
  | r5Opens (hp : s.pos = .r5) :
    ReceiverMove b s ({ s with rcv := { s.rcv with snkOpen := true, nblk := 0, nbad := 0 } }.enter .n6)
  | r5Rejects (hp : s.pos = .r5) : ReceiverMove b s (s.enter .n3)
  | r6Block (hp : s.pos = .r6) : ReceiverMove b s ({ s with rcv := { s.rcv with j := 0, acc := 0 } }.enter .n7)
  | r6Closes (hp : s.pos = .r6) :
    ReceiverMove b s ({ s with
      rcv := { s.rcv with snkOpen := false }, ctl := { s.ctl with filesDone := s.ctl.filesDone + 1 } }.enter .n3)
  | r6Rejects (hp : s.pos = .r6) : ReceiverMove b s (s.enter .n6)
  | r7 (hp : s.pos = .r7) (hj : s.rcv.j < 128) :
    ReceiverMove b s ((s.storePayload b).enter (if s.rcv.j = 127 then .n8 else .n7))
  | r8Writes (hp : s.pos = .r8) :
    ReceiverMove b s ({ s with rcv := { s.rcv with nblk := s.rcv.nblk + 1, nbad := 0 } }.enter .n6)
  | r8Rejects (hp : s.pos = .r8) :
    ReceiverMove b s ({ s with rcv := { s.rcv with nbad := satInc s.rcv.nbad } }.enter .n6)

/-- R226: the sink opens the file, or the name is rejected. -/
theorem State.openSink_leads {s : State} (hp : s.pos = .r5) (hrole : s.ctl.roleAct = .receiver) (b : Byte) :
    s.openSink.Leads s (ReceiverMove b s) := by
  unfold State.openSink
  split
  next hc =>
    obtain ⟨_, _, _, _, rfl⟩ := State.UpToIO.of_hostCall hc
    exact State.tx_leads ((MidStep.receiver hrole _ _).upToIO ⟨_, _, _, _, rfl⟩) _ fun _ _ =>
      .go (.r5Opens hp) ⟨_, _, _, _, rfl⟩
  next hc =>
    obtain ⟨_, _, _, _, rfl⟩ := State.UpToIO.of_hostCall hc
    exact State.tx_leads ((MidStep.refl s).upToIO ⟨_, _, _, _, rfl⟩) _ fun _ _ =>
      .go (.r5Rejects hp) ⟨_, _, _, _, rfl⟩

/-- R227: the sink closes the file, or the session aborts. -/
theorem State.closeSink_leads {s : State} (hp : s.pos = .r6) (b : Byte) : s.closeSink.Leads s (ReceiverMove b s) := by
  unfold State.closeSink
  split
  next hc => exact .abort ((MidStep.refl s).upToIO (.of_hostCall hc)) (by decide)
  next hc =>
    obtain ⟨_, _, _, _, rfl⟩ := State.UpToIO.of_hostCall hc
    exact .go (.r6Closes hp) ⟨_, _, _, _, rfl⟩

/-- R229: the block is written and acknowledged, or the session aborts. -/
theorem State.writeBlock_leads {s : State} (hp : s.pos = .r8) (hrole : s.ctl.roleAct = .receiver) (b : Byte) :
    s.writeBlock.Leads s (ReceiverMove b s) := by
  unfold State.writeBlock
  split
  next hc => exact .abort ((MidStep.refl s).upToIO (.of_hostCall hc)) (by decide)
  next hc =>
    obtain ⟨_, _, _, _, rfl⟩ := State.UpToIO.of_hostCall hc
    exact State.tx_leads ((MidStep.receiver hrole _ _).upToIO ⟨_, _, _, _, rfl⟩) _ fun _ _ =>
      .go (.r8Writes hp) ⟨_, _, _, _, rfl⟩

/-- R92: everything the receiver's response to a byte can do. -/
theorem respond_leads_of_isReceiver {s : State} (h : s.pos.isReceiver = true) (b : Byte) :
    (respond b s).Leads s (ReceiverMove b s) := by
  have hrole := State.roleAct_of_isReceiver h
  unfold respond
  cases hp : s.pos with
  | r1 =>
    dsimp only [waitR1]
    split
    · exact State.reply_leads (.refl s) _ (.r1Ready hp)
    · exact .go (.r1Again hp) (.refl _)
  | r2 =>
    dsimp only [waitR2]
    split
    · exact .go (.r2 hp) (.refl _)
    · exact .abort (.refl s) (by decide)
  | r3 =>
    dsimp only [waitR3]
    split
    · exact State.tx_leads (.refl s) _ fun _ _ => .go (.r3Named hp) ⟨_, _, _, _, rfl⟩
    · split
      · exact .inl ⟨_, .r3Finishes hp, .refl _⟩
      · exact State.reply_leads (.refl s) _ (.r3Rejects hp)
  | r4 =>
    dsimp only [waitR4]
    split
    next hb =>
      split
      next hi =>
        exact State.tx_leads (.receiver hrole _ _) _ fun _ _ => .go (.r4Accepts hp hb hi) ⟨_, _, _, _, rfl⟩
      next => trivial
    next => exact State.reply_leads (.refl s) _ (.r4Rejects hp)
  | r5 =>
    dsimp only [waitR5]
    split
    · exact State.openSink_leads hp hrole b
    · exact State.reply_leads (.refl s) _ (.r5Rejects hp)
  | r6 =>
    dsimp only [waitR6]
    split
    · exact State.tx_leads (.refl s) _ fun _ _ => .go (.r6Block hp) ⟨_, _, _, _, rfl⟩
    · split
      · exact State.closeSink_leads hp b
      · exact State.reply_leads (.refl s) _ (.r6Rejects hp)
  | r7 =>
    dsimp only [waitR7]
    split
    next hj => exact .go (.r7 hp hj) (.refl _)
    next => trivial
  | r8 =>
    dsimp only [waitR8]
    split
    · exact State.writeBlock_leads hp hrole b
    · exact State.reply_leads (.receiver hrole _ _) _ (.r8Rejects hp)
  | s1 | s2 | s3 | s4 | s5 | s6 | s7 | s8 | s9 | idle | done | aborted | unused =>
    simp [hp, Pos.isReceiver] at h

/-! ### The environment's moves and the whole step -/

/-- Where the environment's move `m` leads in `s` (R274, R308, R321, R325, R340). -/
inductive EnvMove (m : Input) (s : State) : State → Prop
  /-- R67, R325, R328: a byte arrives, the line changes, the host reads, or a write is ignored. -/
  | io (rxq : List Byte) (line : Line) (trace : List Output) :
    EnvMove m s { s with rxq := rxq, line := line, trace := trace }
  | ticks : EnvMove m s s.tick
  | startsSender (hb : s.ctl.busy = false) (hf : filesAdmitted s.files = true) :
    EnvMove m s (s.startSession .sender).startSender
  | startsReceiver (hb : s.ctl.busy = false) : EnvMove m s (s.startSession .receiver).startReceiver
  | configures (hb : s.ctl.busy = false) (cfg : Cfg) : EnvMove m s { s with cfg := cfg }
  | lists (hb : s.ctl.busy = false) (files : List HostFile) : EnvMove m s { s with files := files }
  | resets {keep : Bool} (hm : m = .reset keep) : EnvMove m s (s.engineReset keep)

theorem hostWrite_envMove {m : Input} {s t : State} {idx : Nat} {v : Word} (h : hostWrite idx v s = .next t) :
    EnvMove m s t := by
  obtain e | e | e := hostWrite_cases idx v s
  all_goals rw [e] at h
  · unfold execStartSend at h
    split at h
    next =>
      obtain rfl := Host.Outcome.next.inj h
      exact .io _ _ _
    next hb =>
      split at h
      next hf =>
        obtain rfl := Host.Outcome.next.inj h
        exact .startsSender (by simpa using hb) hf
      next => cases h
  · unfold execStartRecv at h
    split at h
    next =>
      obtain rfl := Host.Outcome.next.inj h
      exact .io _ _ _
    next hb =>
      obtain rfl := Host.Outcome.next.inj h
      exact .startsReceiver (by simpa using hb)
  · unfold State.writeCfg at h
    obtain rfl := Host.Outcome.next.inj h
    split
    next => exact .io _ _ _
    next hb => exact .configures (by simpa using hb) _

theorem setLine_envMove {m : Input} (l : Line) (s : State) : EnvMove m s (setLine l s) := by
  obtain e | ⟨-, e⟩ := setLine_cases l s
  all_goals rw [e]
  · exact .io _ _ _
  · exact .io _ _ _

/-- R278, R325: every input but the engine's turn is a move of the environment. -/
theorem applyInput_envMove {m : Input} (hm : m ≠ .turn) {s t : State} (h : applyInput m s = .next t) :
    EnvMove m s t := by
  cases m with
  | turn => exact absurd rfl hm
  | arrive | lineFail | read =>
    obtain rfl := Host.Outcome.next.inj h
    exact .io _ _ _
  | tick =>
    obtain rfl := Host.Outcome.next.inj h
    exact .ticks
  | lineFailAfter | lineStallAfter | lineUp =>
    obtain rfl := Host.Outcome.next.inj h
    exact setLine_envMove _ s
  | write idx v => exact hostWrite_envMove (v := v) h
  | setFiles files =>
    change hostFiles files s = _ at h
    unfold hostFiles at h
    split at h
    next => cases h
    next hb =>
      obtain rfl := Host.Outcome.next.inj h
      exact .lists (by simpa using hb) files
  | reset keep =>
    obtain rfl := Host.Outcome.next.inj h
    exact .resets rfl

/-- Where the engine's turn in `s` leads. -/
inductive TurnMove (s : State) : State → Prop
  /-- R66, R312, R341: nothing is in progress, or the line holds a stuck transmission. -/
  | rests : TurnMove s s
  | ticks : TurnMove s s.tick
  | stuckFails {p : Pending} (hs : s.stuck = some p) : TurnMove s ((s.withPending p).abort .lineIo)
  | aborts {m : State} {c : Cause} (hp : s.pos.inSession = true) (hm : MidStep s m) (hc : c ≠ .none) :
    TurnMove s (m.abort c)
  | stalls {rxq : List Byte} {m : State} (hp : s.pos.inSession = true) (hm : MidStep s m) :
    TurnMove s (stuckState { s with rxq := rxq } m)
  | acts {u t : State} (hs : s.stuck = none) (hu : ActMove s u) (ht : u.UpToIO t) : TurnMove s t
  | senderTakes {b : Byte} {rest : List Byte} {u t : State} (hw : s.listening = true) (hq : s.rxq = b :: rest)
    (hu : SenderMove b { s with rxq := rest } u) (ht : u.UpToIO t) : TurnMove s t
  | receiverTakes {b : Byte} {rest : List Byte} {u t : State} (hw : s.listening = true) (hq : s.rxq = b :: rest)
    (hu : ReceiverMove b { s with rxq := rest } u) (ht : u.UpToIO t) : TurnMove s t

/-- R305, R314: the next states of a part of a step that leads to `R`. -/
theorem Flow.Leads.next {s t : State} {R : State → Prop} {m : Flow} (h : m.Leads s R) (ht : m.outcome s = .next t) :
    (∃ u, R u ∧ u.UpToIO t) ∨ (∃ m c, MidStep s m ∧ c ≠ .none ∧ t = m.abort c) ∨
      ∃ m, MidStep s m ∧ t = stuckState s m := by
  obtain rfl | rfl | ⟨m, rfl, rfl⟩ := Flow.outcome_eq_next ht
  · exact .inl h
  · exact h.imp_right .inl
  · exact .inr (.inr ⟨m, h, rfl⟩)

/-- R66, R306, R309: everything the engine's turn can do. -/
theorem engineStep_move {s t : State} (h : engineStep s = .next t) : TurnMove s t := by
  have hturn := engineStep_turn s
  rw [h] at hturn
  generalize ho : Host.Outcome.next t = o at hturn
  cases hturn with
  | quiescent | stuckWaits =>
    obtain rfl := Host.Outcome.next.inj ho
    exact .rests
  | unusedCode => cases ho
  | stuckFails _ hs =>
    obtain rfl := Host.Outcome.next.inj ho
    exact .stuckFails hs
  | lineFails hp =>
    obtain rfl := Host.Outcome.next.inj ho
    exact .aborts hp (.refl s) (by decide)
  | timesOut _ hw =>
    obtain rfl := Host.Outcome.next.inj ho
    exact .aborts (State.inSession_of_listening hw) (.refl s) (by decide)
  | waits =>
    obtain rfl := Host.Outcome.next.inj ho
    exact .ticks
  | @receives b rest _ hw hq =>
    have hp := State.inSession_of_listening hw
    obtain ⟨-, hr, -⟩ := (State.listening_iff s).1 hw
    obtain hsend | hrecv : s.pos.isSender = true ∨ s.pos.isReceiver = true := by
      simpa [Pos.inSession] using hp
    · obtain ⟨u, hu, ht⟩ | ⟨m, c, hm, hc, rfl⟩ | ⟨m, hm, rfl⟩ :=
        (respond_leads_of_isSender (s := { s with rxq := rest }) hsend hr b).next ho.symm
      · exact .senderTakes hw hq hu ht
      · exact .aborts hp { hm with } hc
      · exact .stalls hp { hm with }
    · obtain ⟨u, hu, ht⟩ | ⟨m, c, hm, hc, rfl⟩ | ⟨m, hm, rfl⟩ :=
        (respond_leads_of_isReceiver (s := { s with rxq := rest }) hrecv b).next ho.symm
      · exact .receiverTakes hw hq hu ht
      · exact .aborts hp { hm with } hc
      · exact .stalls hp { hm with }
  | acts hp hs _ hw =>
    have hsend : s.pos.isSender = true := by
      revert hp hw
      unfold State.listening
      cases s.pos <;> simp [hs, Pos.inSession, Pos.isSender, Pos.isReceiver]
    obtain ⟨u, hu, ht⟩ | ⟨m, c, hm, hc, rfl⟩ | ⟨m, hm, rfl⟩ := (actFlow_leads hsend).next ho.symm
    · exact .acts hs hu ht
    · exact .aborts hp hm hc
    · exact .stalls hp hm

/-- R278, R306: a step is the engine's turn or a move of its environment, up to the list of inputs. -/
theorem step_move {s t : State} (h : step s = .next t) :
    (∃ more, TurnMove { s with inputs := more } t) ∨
      ∃ m more, s.inputs = m :: more ∧ EnvMove m { s with inputs := more } t := by
  cases hi : s.inputs with
  | nil => exact .inl ⟨[], by rw [← hi]; exact engineStep_move (step_nil hi ▸ h)⟩
  | cons m more =>
    rw [step_cons hi] at h
    by_cases hm : m = .turn
    · exact .inl ⟨more, engineStep_move (by rw [← h, hm]; rfl)⟩
    · exact .inr ⟨m, more, rfl, applyInput_envMove hm h⟩

end Sys2Proof.Machine
end

section
/-! The invariant of the endpoint (`Inv`), carried over every move. It is stated once per kind of position (S1 and S2,
S3 to S9, R1 to R8, outside a session) by what does not depend on the position there, so that a move within a kind has
only its own registers to account for. -/

namespace Sys2Proof.Machine

/-! ### The invariant by kind of position -/

/-- R26: a session runs, and nothing has ended it or holds it in a transmission. -/
def Running (s : State) : Prop :=
  s.ctl.busy = true ∧ s.ctl.done = false ∧ s.ctl.aborted = false ∧ s.ctl.cause = .none ∧ s.ctl.msg = .none ∧
    s.ctl.abortSt = .idle ∧ s.stuck = none

/-- The place in the open file and the held block: what `BlockInv` says where a file is open. -/
def FilePlace (s : State) : Prop :=
  ∃ f ∈ s.files[s.snd.k.toNat]?,
    s.snd.len.toNat = f.data.length ∧
    s.snd.off.toNat = min (128 * s.snd.nblk.toNat) s.snd.len.toNat ∧
    128 * s.snd.nblk.toNat < s.snd.len.toNat + 128 ∧
    (s.snd.blkValid = true →
      s.snd.off < s.snd.len ∧
      s.snd.blen.toNat = blockBytes s.snd ∧
      s.blk = padBlock (fileBytes f.data s.snd.off.toNat (blockBytes s.snd)) ∧
      s.snd.chk = xorChecksum s.blk)

/-- What the sender keeps while a file is open, in S3 to S9 alike (R27, R28, R34, R36, R274). -/
def FileOpen (s : State) : Prop :=
  Running s ∧ s.snd.srcOpen = true ∧ s.rcv.snkOpen = false ∧
  (filesAdmitted s.files = true ∧ s.snd.n.toNat = s.files.length) ∧
  (s.snd.k < s.snd.n ∧ s.ctl.filesDone = s.snd.k) ∧
  FilePlace s ∧
  (s.cfg.retryLimit ≠ 0 → s.snd.retry ≤ s.cfg.retryLimit)

/-- What `SenderInv` says of one state with a file open. -/
def SenderAt (p : Pos) (s : State) : Prop :=
  match p with
  | .s3 => (s.snd.blkValid = false ∧ s.snd.off = 0 ∧ s.snd.nblk = 0) ∧ (s.ctl.ph = .wait → s.snd.i = 0)
  | .s4 => (s.snd.blkValid = false ∧ s.snd.off = 0 ∧ s.snd.nblk = 0) ∧ s.snd.i < 11
  | .s5 => (s.snd.blkValid = false ∧ s.snd.off = 0 ∧ s.snd.nblk = 0) ∧ s.snd.i = 11
  | .s6 => s.ctl.ph = .wait → atEof s.snd = false
  | .s7 => s.snd.j < 128 ∧ (s.snd.blkValid = false → s.snd.j = 0 ∧ s.snd.off < s.snd.len)
  | .s8 => s.snd.blkValid = true ∧ s.snd.j = 128
  | .s9 => atEof s.snd = true
  | .s1 | .s2 | .r1 | .r2 | .r3 | .r4 | .r5 | .r6 | .r7 | .r8 | .idle | .done | .aborted | .unused => True

/-- What the sender keeps before its first file is open, in S1 and S2 alike. -/
def NoFileYet (s : State) : Prop :=
  Running s ∧ s.snd.srcOpen = false ∧ s.rcv.snkOpen = false ∧
  (filesAdmitted s.files = true ∧ s.snd.n.toNat = s.files.length) ∧ s.ctl.filesDone = 0 ∧ s.snd.blkValid = false

section
variable {s : State} {p : Pos}

theorem inSession_of_isSender (h : p.isSender = true) : p.inSession = true := by simp [Pos.inSession, h]

theorem inSession_of_isReceiver (h : p.isReceiver = true) : p.inSession = true := by simp [Pos.inSession, h]

theorem isSender_of_sourceHeld (h : sourceHeld p = true) : p.isSender = true := by
  cases p <;> simp [sourceHeld, Pos.isSender] at h ⊢

theorem sinkHeld_of_isSender (h : p.isSender = true) : sinkHeld p = false := by
  cases p <;> simp [sinkHeld, Pos.isSender] at h ⊢

theorem sourceHeld_of_isReceiver (h : p.isReceiver = true) : sourceHeld p = false := by
  cases p <;> simp [sourceHeld, Pos.isReceiver] at h ⊢

theorem isSender_of_isReceiver (h : p.isReceiver = true) : p.isSender = false := by
  cases p <;> simp [Pos.isSender, Pos.isReceiver] at h ⊢

theorem isReceiver_of_isSender (h : p.isSender = true) : p.isReceiver = false := by
  cases p <;> simp [Pos.isSender, Pos.isReceiver] at h ⊢

theorem ne_of_inSession (h : p.inSession = true) : p ≠ .idle ∧ p ≠ .done ∧ p ≠ .aborted ∧ p ≠ .unused := by
  cases p <;> simp [Pos.inSession, Pos.isSender, Pos.isReceiver] at h ⊢

/-- R26: the status registers of a running session. -/
theorem StatusInv.running (h : StatusInv s) (hp : s.pos.inSession = true) (hs : s.stuck = none) : Running s := by
  obtain ⟨-, hbusy, hdone, habort, hclean, -⟩ := h
  obtain ⟨-, hd, ha, -⟩ := ne_of_inSession hp
  have ha' : s.ctl.aborted = false := by simpa [ha] using habort
  obtain ⟨hcause, hmsg, hst⟩ := hclean ha'
  exact ⟨hbusy.trans hp, by simpa [hd] using hdone, ha', hcause, hmsg, hst, hs⟩

theorem Running.not_stuck (h : Running s) : s.stuck = none := by
  obtain ⟨-, -, -, -, -, -, hs⟩ := h
  exact hs

theorem FileOpen.running (h : FileOpen s) : Running s := by
  obtain ⟨hrun, -⟩ := h
  exact hrun

theorem Running.statusInv (h : Running s) (hp : s.pos.inSession = true)
    (hph : s.pos.isReceiver = true → s.ctl.ph = .wait) : StatusInv s := by
  obtain ⟨hbusy, hdone, habort, hcause, hmsg, hst, hs⟩ := h
  obtain ⟨-, hd, ha, hu⟩ := ne_of_inSession hp
  exact ⟨hu, hbusy.trans hp.symm, by simp [hdone, hd], by simp [habort, ha], fun _ => ⟨hcause, hmsg, hst⟩,
    fun h => by simp [habort] at h, fun q hq => by simp [hs] at hq, hph⟩

/-- Outside the receiver's states `ReceiverInv` says nothing. -/
theorem receiverInv_of_not_isReceiver (h : s.pos.isReceiver = false) : ReceiverInv s := by
  revert h
  unfold ReceiverInv
  cases s.pos <;> simp [Pos.isReceiver]

/-- Outside the sender's states `SenderInv` says nothing. -/
theorem senderInv_of_not_isSender (h : s.pos.isSender = false) : SenderInv s := by
  revert h
  unfold SenderInv
  cases s.pos <;> simp [Pos.isSender, sourceHeld]

/-- With a file open, `SenderInv` says what `SenderAt` says of the position, and bounds the retries (R34). -/
theorem senderInv_iff (h : sourceHeld s.pos = true) :
    SenderInv s ↔ SenderAt s.pos s ∧ (s.cfg.retryLimit ≠ 0 → s.snd.retry ≤ s.cfg.retryLimit) := by
  revert h
  unfold SenderInv SenderAt
  cases s.pos <;> simp [sourceHeld, and_assoc]

/-- The invariant in S1 and S2. -/
theorem inv_iff_noFileYet (hp : s.pos = .s1 ∨ s.pos = .s2) (hs : s.stuck = none) :
    Inv s ↔ NoFileYet s ∧ TimerInv s := by
  have hsend : s.pos.isSender = true := by rcases hp with hp | hp <;> simp [hp, Pos.isSender]
  have hheld : sourceHeld s.pos = false := by rcases hp with hp | hp <;> simp [hp, sourceHeld]
  have hrecv := isReceiver_of_isSender hsend
  constructor
  · rintro ⟨hstatus, htimer, ⟨hsrc, hsnk⟩, ⟨hlist, hfiles, -⟩, -, ⟨hvalid, -⟩, -⟩
    exact ⟨⟨hstatus.running (inSession_of_isSender hsend) hs, hsrc.trans hheld,
      hsnk.trans (sinkHeld_of_isSender hsend), hlist hsend, hfiles hp, hvalid hp⟩, htimer⟩
  · rintro ⟨⟨hrun, hsrc, hsnk, hlist, hfiles, hvalid⟩, htimer⟩
    refine ⟨hrun.statusInv (inSession_of_isSender hsend) (by simp [hrecv]), htimer,
      ⟨hsrc.trans hheld.symm, hsnk.trans (sinkHeld_of_isSender hsend).symm⟩,
      ⟨fun _ => hlist, fun _ => hfiles, by simp [hheld], ?_⟩, by simp [BlockInv, hheld], ?_,
      receiverInv_of_not_isReceiver hrecv⟩
    · rcases hp with hp | hp <;> simp [hp]
    · unfold SenderInv
      rcases hp with hp | hp <;> simp [hp, hvalid, sourceHeld]

/-- The invariant in S3 to S9. -/
theorem inv_iff_fileOpen (hp : s.pos = p) (hheld : sourceHeld p = true) (hs : s.stuck = none) :
    Inv s ↔ FileOpen s ∧ SenderAt p s ∧ TimerInv s := by
  subst hp
  have hsend := isSender_of_sourceHeld hheld
  have hrecv := isReceiver_of_isSender hsend
  constructor
  · rintro ⟨hstatus, htimer, ⟨hsrc, hsnk⟩, ⟨hlist, -, hplace, -⟩, hblock, hsender, -⟩
    obtain ⟨hat, hretry⟩ := (senderInv_iff hheld).1 hsender
    exact ⟨⟨hstatus.running (inSession_of_isSender hsend) hs, hsrc.trans hheld,
      hsnk.trans (sinkHeld_of_isSender hsend), hlist hsend, hplace hheld, hblock hheld, hretry⟩, hat, htimer⟩
  · rintro ⟨⟨hrun, hsrc, hsnk, hlist, hplace, hblock, hretry⟩, hat, htimer⟩
    refine ⟨hrun.statusInv (inSession_of_isSender hsend) (by simp [hrecv]), htimer,
      ⟨hsrc.trans hheld.symm, hsnk.trans (sinkHeld_of_isSender hsend).symm⟩,
      ⟨fun _ => hlist, fun h => ?_, fun _ => hplace, fun h => ?_⟩, fun _ => hblock,
      (senderInv_iff hheld).2 ⟨hat, hretry⟩, receiverInv_of_not_isReceiver hrecv⟩
    · rcases h with h | h <;> simp [h, sourceHeld] at hheld
    · simp [h, sourceHeld] at hheld

/-- The invariant in R1 to R8. -/
theorem inv_iff_receiver (hp : s.pos = p) (hrecv : p.isReceiver = true) (hs : s.stuck = none) :
    Inv s ↔ Running s ∧ s.ctl.ph = .wait ∧ TimerInv s ∧ s.snd.srcOpen = false ∧ s.rcv.snkOpen = sinkHeld p ∧
      ReceiverInv s := by
  subst hp
  have hheld := sourceHeld_of_isReceiver hrecv
  have hsend := isSender_of_isReceiver hrecv
  constructor
  · rintro ⟨hstatus, htimer, ⟨hsrc, hsnk⟩, -, -, -, hreceiver⟩
    have hrun := hstatus.running (inSession_of_isReceiver hrecv) hs
    obtain ⟨-, -, -, -, -, -, -, hph⟩ := hstatus
    exact ⟨hrun, hph hrecv, htimer, hsrc.trans hheld, hsnk, hreceiver⟩
  · rintro ⟨hrun, hph, htimer, hsrc, hsnk, hreceiver⟩
    refine ⟨hrun.statusInv (inSession_of_isReceiver hrecv) fun _ => hph, htimer, ⟨hsrc.trans hheld.symm, hsnk⟩,
      ⟨by simp [hsend], ?_, by simp [hheld], ?_⟩, by simp [BlockInv, hheld], senderInv_of_not_isSender hsend,
      hreceiver⟩
    all_goals revert hrecv
    all_goals cases s.pos <;> simp [Pos.isReceiver]

/-- The invariant outside a session. -/
theorem inv_of_not_inSession (hp : s.pos.inSession = false) (hstatus : StatusInv s) (hsrc : s.snd.srcOpen = false)
    (hsnk : s.rcv.snkOpen = false)
    (hdone : s.pos = .done → s.ctl.roleAct = .sender → s.ctl.filesDone = s.snd.n) : Inv s := by
  obtain ⟨hsend, hrecv⟩ : s.pos.isSender = false ∧ s.pos.isReceiver = false := by simpa [Pos.inSession] using hp
  have hheld : sourceHeld s.pos = false ∧ sinkHeld s.pos = false ∧ s.pos.reading = .nothing := by
    revert hp
    cases s.pos <;> simp [Pos.inSession, Pos.isSender, Pos.isReceiver, sourceHeld, sinkHeld, Pos.reading]
  obtain ⟨hsource, hsink, hreading⟩ := hheld
  refine ⟨hstatus, fun h => absurd hreading h, ⟨hsrc.trans hsource.symm, hsnk.trans hsink.symm⟩,
    ⟨by simp [hsend], fun h => ?_, by simp [hsource], hdone⟩, by simp [BlockInv, hsource],
    senderInv_of_not_isSender hsend, receiverInv_of_not_isReceiver hrecv⟩
  rcases h with h | h <;> simp [h, Pos.isSender] at hsend

end

/-! ### Moves of the control registers -/

section
variable {s m : State}

theorem bitVec_zero_le {n : Nat} (v : BitVec n) : 0 ≤ v := BitVec.le_def.2 (by simp)

theorem timerInv_goTo (s : State) (st : St) : TimerInv (s.goTo st) := fun _ h => by cases h

theorem timerInv_await {l : BitVec 16} (h : l = awaitLimit s.pos) : TimerInv (s.await l) :=
  fun _ _ => ⟨h, bitVec_zero_le l⟩

theorem timerInv_enter (h : s.ctl.roleAct = .receiver) (st : St) : TimerInv (s.enter st) := by
  refine fun _ _ => ⟨?_, bitVec_zero_le _⟩
  cases st <;> simp [State.pos, h, awaitLimit, receiverLimit, handshakeLimit, byteLimit]

theorem tick_inv (h : Inv s) : Inv s.tick := by
  unfold State.tick
  split
  next hw =>
    obtain ⟨hstatus, htimer, hrest⟩ := h
    refine ⟨hstatus, fun hr hph => ⟨(htimer hr hph).1, ?_⟩, hrest⟩
    simp only [BitVec.le_def, BitVec.toNat_ofNat]
    have := s.ctl.tlim.isLt
    rw [Nat.mod_eq_of_lt (by omega)]
    exact Nat.min_le_right _ _
  next => exact h

/-- R22: a position in a session is one of the session's role, and `st` holds none of the codes outside a session. -/
theorem State.role_of_inSession (h : s.pos.inSession = true) :
    (s.ctl.roleAct = .sender ∧ s.pos.isSender = true ∨ s.ctl.roleAct = .receiver ∧ s.pos.isReceiver = true) ∧
      s.ctl.st ≠ .idle ∧ s.ctl.st ≠ .done ∧ s.ctl.st ≠ .aborted := by
  revert h
  unfold State.pos
  cases s.ctl.st <;> cases s.ctl.roleAct <;> simp [Pos.inSession, Pos.isSender, Pos.isReceiver]

/-- R301 to R303, R310, R311: an abort of a session's step. -/
theorem abort_inv (h : Inv s) (hp : s.pos.inSession = true) (hm : MidStep s m) {c : Cause} (hc : c ≠ .none) :
    Inv (m.abort c) := by
  obtain ⟨⟨-, -, hdone, -⟩, -, ⟨hsrc, hsnk⟩, -⟩ := h
  obtain ⟨-, hd, -⟩ := ne_of_inSession hp
  obtain ⟨hrole, hst⟩ := State.role_of_inSession hp
  have hdone' : m.ctl.done = false := by simp [hm.done, hdone, hd]
  refine inv_of_not_inSession rfl ⟨by simp, rfl, hdone', rfl, by simp [Ctl.abort], fun _ => ⟨hc, rfl, ?_⟩, by simp,
    by simp [Pos.isReceiver]⟩ ?_ ?_ (by simp)
  · simpa [Ctl.abort, hm.st] using hst
  · rw [State.abort_snd, State.releaseHandles_snd]
    obtain ⟨hr, hpos⟩ | ⟨hr, hpos⟩ := hrole
    · simp [hm.roleAct, hr]
    · simp [hm.snd hr, hsrc, sourceHeld_of_isReceiver hpos]
  · rw [State.abort_rcv, State.releaseHandles_rcv]
    obtain ⟨hr, hpos⟩ | ⟨hr, hpos⟩ := hrole
    · simp [hm.rcv hr, hsnk, sinkHeld_of_isSender hpos]
    · simp [hm.roleAct, hr]

/-- R66, log 13: a step that is stuck leaves every register as it was before. -/
theorem stuckState_inv (h : Inv s) (hp : s.pos.inSession = true) (hm : MidStep s m) : Inv (stuckState s m) := by
  obtain ⟨⟨hused, hbusy, hdone, haborted, hclean, hfailed, -, hph⟩, hrest⟩ := h
  obtain ⟨-, hd, -⟩ := ne_of_inSession hp
  have hdone' : m.ctl.done = false := by simp [hm.done, hdone, hd]
  refine ⟨⟨hused, hbusy, hdone, haborted, hclean, hfailed, fun q hq => ?_, hph⟩, hrest⟩
  obtain rfl : m.registers = q := Option.some.inj hq
  exact ⟨hbusy.trans hp, hm.roleAct, hm.st, hdone', hm.rcv, hm.snd⟩

/-- R311, R314: a session that ends cleanly. -/
theorem finish_inv (h : Running m) (hsrc : m.snd.srcOpen = false) (hsnk : m.rcv.snkOpen = false)
    (hcount : m.ctl.roleAct = .sender → m.ctl.filesDone = m.snd.n) : Inv m.finish := by
  obtain ⟨-, -, haborted, hcause, hmsg, hst, hs⟩ := h
  refine inv_of_not_inSession rfl ⟨nofun, rfl, rfl, haborted, fun _ => ⟨hcause, hmsg, hst⟩, fun h => ?_, fun q hq => ?_,
    nofun⟩ hsrc hsnk fun _ => hcount
  · simp [haborted] at h
  · simp [hs] at hq

/-! ### The sender's moves keep the invariant -/

theorem goTo_inv {p : Pos} {st : St} (h : FileOpen m) (hp : (m.goTo st).pos = p) (hheld : sourceHeld p = true)
    (hat : SenderAt p (m.goTo st)) : Inv (m.goTo st) :=
  (inv_iff_fileOpen hp hheld h.running.not_stuck).2 ⟨h, hat, timerInv_goTo m st⟩

theorem await_inv {p : Pos} {l : BitVec 16} (h : FileOpen m) (hp : m.pos = p) (hheld : sourceHeld p = true)
    (hl : l = awaitLimit p) (hat : SenderAt p (m.await l)) : Inv (m.await l) :=
  (inv_iff_fileOpen (s := m.await l) hp hheld h.running.not_stuck).2 ⟨h, hat, timerInv_await (hl.trans (by rw [hp]))⟩

/-- R274: an admitted file's length fits in the register `L`. -/
theorem data_length_lt {files : List HostFile} (h : filesAdmitted files = true) {x : Nat} {f : HostFile}
    (hf : files[x]? = some f) : f.data.length < 2 ^ 32 := by
  simp only [filesAdmitted, HostFile.admitted, Bool.and_eq_true, List.all_eq_true, decide_eq_true_eq] at h
  exact (h.2 f (List.mem_of_getElem? hf)).2

/-- R173, R28: the next file is opened, or the session ends after the last one. -/
theorem NextFile.inv {x : BitVec 16} {u : State} (hu : NextFile m x u) (hrun : Running m)
    (hrole : m.ctl.roleAct = .sender) (hsrc : m.snd.srcOpen = false) (hsnk : m.rcv.snkOpen = false)
    (hlist : filesAdmitted m.files = true ∧ m.snd.n.toNat = m.files.length) (hcount : m.ctl.filesDone = x)
    (hx : x ≤ m.snd.n) : Inv u := by
  cases hu with
  | @opens f hlt hf =>
    have hlen := data_length_lt hlist.1 hf
    refine goTo_inv (p := .s3) ⟨hrun, rfl, hsnk, hlist, ⟨hlt, hcount⟩, ⟨f, hf, ?_, ?_, ?_, ?_⟩, ?_⟩ ?_ rfl ?_
    · simpa [State.atFile] using hlen
    · simp
    · simp
    · simp
    · exact fun _ => bitVec_zero_le _
    · simp [State.pos, State.atFile, hrole]
    · simp [SenderAt]
  | finishes hge =>
    refine finish_inv (m := m.atFile x) hrun hsrc hsnk fun _ => ?_
    have : x.toNat = m.snd.n.toNat := by
      simp only [BitVec.lt_def, BitVec.le_def] at hge hx
      omega
    exact hcount.trans (BitVec.eq_of_toNat_eq this)

/-- R141: the held block is the file's next bytes and PAD, with its checksum. -/
theorem FileOpen.assembled (h : FileOpen s) {f : HostFile} (hf : s.files[s.snd.k.toNat]? = some f)
    (hlen : (fileBytes f.data s.snd.off.toNat (blockBytes s.snd)).length = blockBytes s.snd)
    (hoff : s.snd.off < s.snd.len) : FileOpen (s.assembled (fileBytes f.data s.snd.off.toNat (blockBytes s.snd))) := by
  obtain ⟨hrun, hsrc, hsnk, hlist, hplace, ⟨g, hg, hL, hmul, hbound, -⟩, hretry⟩ := h
  obtain rfl : f = g := Option.some.inj (hf.symm.trans hg)
  refine ⟨hrun, hsrc, hsnk, hlist, hplace, ⟨f, hf, hL, hmul, hbound, fun _ => ⟨hoff, ?_, rfl, rfl⟩⟩, hretry⟩
  have := blockBytes_le s.snd
  simp only [State.assembled_snd, BitVec.toNat_ofNat, hlen]
  exact Nat.mod_eq_of_lt (by omega)

/-- R35, R65, R184: the acknowledged bytes are again a multiple of 128, or all of the file. -/
theorem FileOpen.acknowledged (h : FileOpen s) (hvalid : s.snd.blkValid = true) : FileOpen s.acknowledged := by
  obtain ⟨hrun, hsrc, hsnk, hlist, hplace, ⟨f, hf, hL, hmul, hbound, hheld⟩, hretry⟩ := h
  obtain ⟨hlt, hblen, -⟩ := hheld hvalid
  have hsize := data_length_lt hlist.1 hf
  simp only [BitVec.lt_def] at hlt
  unfold blockBytes at hblen
  have hnblk : (s.snd.nblk + 1).toNat = s.snd.nblk.toNat + 1 := by
    rw [BitVec.toNat_add, show (1 : BitVec 32).toNat = 1 from rfl]; omega
  have hoff : (s.snd.off + s.snd.blen.zeroExtend 32).toNat = s.snd.off.toNat + s.snd.blen.toNat := by
    simp only [BitVec.toNat_add, BitVec.zeroExtend_eq_setWidth, BitVec.toNat_setWidth]; omega
  refine ⟨hrun, hsrc, hsnk, hlist, hplace, ⟨f, hf, hL, ?_, ?_, nofun⟩, fun _ => bitVec_zero_le _⟩
  · simp only [State.acknowledged_snd, hoff, hnblk]
    omega
  · simp only [State.acknowledged_snd, hnblk]
    omega

/-- R276: below the retry bound, one more retry does not exceed it. -/
theorem satInc_le {v limit : BitVec 16} (h : v ≤ limit) (hne : v ≠ limit) : satInc v ≤ limit := by
  have hne' : v.toNat ≠ limit.toNat := fun e => hne (BitVec.eq_of_toNat_eq e)
  simp only [BitVec.le_def, satInc_eq, BitVec.toNat_ofNat] at h ⊢
  omega

/-- R31, R35: the acknowledged bytes do not exceed the file's length, so without EOF some are left. -/
theorem FileOpen.off_lt_len (h : FileOpen s) (hvalid : s.snd.blkValid = false) (he : atEof s.snd = false) :
    s.snd.off < s.snd.len := by
  obtain ⟨-, -, -, -, -, ⟨f, hf, hL, hmul, -⟩, -⟩ := h
  have hne : s.snd.off.toNat ≠ s.snd.len.toNat := fun e => by
    simp [atEof, hvalid, BitVec.eq_of_toNat_eq e] at he
  simp only [BitVec.lt_def]
  omega

theorem Inv.fileOpen {p : Pos} (h : Inv s) (hp : s.pos = p) (hheld : sourceHeld p = true) (hs : s.stuck = none) :
    s.ctl.roleAct = .sender ∧ FileOpen s ∧ SenderAt p s := by
  obtain ⟨hopen, hat, -⟩ := (inv_iff_fileOpen hp hheld hs).1 h
  exact ⟨State.roleAct_of_isSender (hp ▸ isSender_of_sourceHeld hheld), hopen, hat⟩

/-- R29: the index of the next filename byte stays in the name. -/
theorem nameIndex_succ_lt {i : BitVec 4} (h : i < 11) (hne : i ≠ 10) : i + 1 < 11 := by
  bv_omega

/-- R30: the index of the next payload byte stays in the block. -/
theorem blockIndex_succ_lt {j : BitVec 8} (h : j < 128) (hne : j ≠ 127) : j + 1 < 128 := by
  bv_omega

/-- S7 is no WAIT phase, so its timer is free. -/
theorem timerInv_of_reading (h : s.pos.reading = .nothing) : TimerInv s := fun hr => absurd h hr

/-- R170 to R185: an ACT step of the sender keeps the invariant. -/
theorem ActMove.inv {u : State} (hu : ActMove s u) (h : Inv s) (hs : s.stuck = none) : Inv u := by
  cases hu with
  | s1 hp =>
    obtain ⟨hno, -⟩ := (inv_iff_noFileYet (.inl hp) hs).1 h
    exact (inv_iff_noFileYet (s := s.await _) (.inl hp) hs).2 ⟨hno, timerInv_await (by rw [hp]; rfl)⟩
  | s2 hp hu =>
    obtain ⟨⟨hrun, hsrc, hsnk, hlist, hfiles, -⟩, -⟩ := (inv_iff_noFileYet (.inr hp) hs).1 h
    exact hu.inv hrun (State.roleAct_of_isSender (by rw [hp]; rfl)) hsrc hsnk hlist hfiles (bitVec_zero_le _)
  | s3 hp =>
    obtain ⟨-, hopen, hfresh, -⟩ := h.fileOpen hp rfl hs
    exact await_inv (p := .s3) hopen hp rfl rfl ⟨hfresh, fun _ => rfl⟩
  | s4 hp =>
    obtain ⟨-, hopen, hat⟩ := h.fileOpen hp rfl hs
    exact await_inv (p := .s4) hopen hp rfl rfl hat
  | s5 hp =>
    obtain ⟨-, hopen, hat⟩ := h.fileOpen hp rfl hs
    exact await_inv (p := .s5) hopen hp rfl rfl hat
  | s6Ends hp he =>
    obtain ⟨hrole, hopen, -⟩ := h.fileOpen hp rfl hs
    exact goTo_inv (p := .s9) hopen (by simp [State.pos, hrole]) rfl he
  | s6Announces hp he =>
    obtain ⟨-, hopen, -⟩ := h.fileOpen hp rfl hs
    exact await_inv (p := .s6) hopen hp rfl rfl fun _ => he
  | s7Streams hp hv =>
    obtain ⟨hrole, hopen, hj, -⟩ := h.fileOpen hp rfl hs
    unfold State.streamed
    dsimp only
    split
    next hlast =>
      exact goTo_inv (m := { s with snd := { s.snd with j := s.snd.j + 1 } }) (p := .s8) hopen
        (by simp [State.pos, hrole]) rfl ⟨hv, by simp [hlast]⟩
    next hmore =>
      exact (inv_iff_fileOpen (s := { s with snd := { s.snd with j := s.snd.j + 1 } }) (p := .s7) hp rfl hs).2
        ⟨hopen, ⟨blockIndex_succ_lt hj hmore, fun h => by simp [hv] at h⟩,
          timerInv_of_reading (congrArg Pos.reading hp)⟩
  | s7Assembles hp hv hf hlen =>
    obtain ⟨-, hopen, hj, hoff⟩ := h.fileOpen hp rfl hs
    exact (inv_iff_fileOpen (s := s.assembled _) (p := .s7) hp rfl hs).2
      ⟨hopen.assembled hf hlen (hoff hv).2, ⟨hj, nofun⟩, timerInv_of_reading (congrArg Pos.reading hp)⟩
  | s8 hp =>
    obtain ⟨-, hopen, hat⟩ := h.fileOpen hp rfl hs
    exact await_inv (p := .s8) hopen hp rfl rfl hat
  | s9 hp hu =>
    obtain ⟨hrole, ⟨hrun, -, hsnk, hlist, ⟨hk, hcount⟩, -⟩, -⟩ := h.fileOpen hp rfl hs
    have hnext : s.snd.k + 1 ≤ s.snd.n := by
      simp only [BitVec.lt_def, BitVec.le_def, BitVec.toNat_add, show (1 : BitVec 16).toNat = 1 from rfl] at hk ⊢
      omega
    exact hu.inv hrun hrole rfl hsnk hlist (congrArg (· + 1) hcount) hnext

/-- R171 to R184: the sender's response to a byte keeps the invariant. -/
theorem SenderMove.inv {b : Byte} {u : State} (hu : SenderMove b s u) (h : Inv s) (hw : s.listening = true) :
    Inv u := by
  obtain ⟨hs, -, hph⟩ := (State.listening_iff s).1 hw
  cases hu with
  | s1Ready hp =>
    obtain ⟨hno, -⟩ := (inv_iff_noFileYet (.inl hp) hs).1 h
    have hrole := State.roleAct_of_isSender (s := s) (by rw [hp]; rfl)
    exact (inv_iff_noFileYet (s := s.goTo .n2) (.inr (by simp [State.pos, hrole])) hs).2 ⟨hno, timerInv_goTo s _⟩
  | s1Again hp =>
    obtain ⟨hno, -⟩ := (inv_iff_noFileYet (.inl hp) hs).1 h
    have hrole := State.roleAct_of_isSender (s := s) (by rw [hp]; rfl)
    exact (inv_iff_noFileYet (s := s.goTo .n1) (.inl (by simp [State.pos, hrole])) hs).2 ⟨hno, timerInv_goTo s _⟩
  | s3 hp =>
    obtain ⟨hrole, hopen, hfresh, hi⟩ := h.fileOpen hp rfl hs
    exact goTo_inv (p := .s4) hopen (by simp [State.pos, hrole]) rfl
      ⟨hfresh, by simp [hi (hph (by rw [hp]; rfl))]⟩
  | s4Echoed hp =>
    obtain ⟨hrole, hopen, hfresh, hi⟩ := h.fileOpen hp rfl hs
    unfold State.echoed
    split
    next hlast => exact goTo_inv (p := .s5) hopen (by simp [State.pos, hrole]) rfl ⟨hfresh, by simp [hlast]⟩
    next hmore =>
      exact goTo_inv (p := .s4) hopen (by simp [State.pos, hrole]) rfl ⟨hfresh, nameIndex_succ_lt hi hmore⟩
  | s4Restarts hp =>
    obtain ⟨hrole, hopen, hfresh, -⟩ := h.fileOpen hp rfl hs
    exact goTo_inv (p := .s3) hopen (by simp [State.pos, hrole]) rfl ⟨hfresh, nofun⟩
  | s5Ready hp =>
    obtain ⟨hrole, hopen, -⟩ := h.fileOpen hp rfl hs
    exact goTo_inv (p := .s6) hopen (by simp [State.pos, hrole]) rfl nofun
  | s5Restarts hp =>
    obtain ⟨hrole, hopen, hfresh, -⟩ := h.fileOpen hp rfl hs
    exact goTo_inv (p := .s3) hopen (by simp [State.pos, hrole]) rfl ⟨hfresh, nofun⟩
  | s6 hp =>
    obtain ⟨hrole, hopen, he⟩ := h.fileOpen hp rfl hs
    exact goTo_inv (p := .s7) hopen (by simp [State.pos, hrole]) rfl
      ⟨by simp, fun hv => ⟨rfl, hopen.off_lt_len hv (he (hph (by rw [hp]; rfl)))⟩⟩
  | s8Acknowledged hp =>
    obtain ⟨hrole, hopen, hvalid, -⟩ := h.fileOpen hp rfl hs
    exact (inv_iff_fileOpen (s := s.acknowledged) (p := .s6) (by simp [State.pos, hrole]) rfl hs).2
      ⟨hopen.acknowledged hvalid, nofun, timerInv_goTo _ _⟩
  | s8Negated hp hbound =>
    obtain ⟨hrole, ⟨hrun, hsrc, hsnk, hlist, hplace, hblock, hretry⟩, -⟩ := h.fileOpen hp rfl hs
    refine goTo_inv (p := .s6) ⟨hrun, hsrc, hsnk, hlist, hplace, hblock, fun hl => ?_⟩ (by simp [State.pos, hrole])
      rfl nofun
    exact satInc_le (hretry hl) fun e => hbound ⟨hl, e⟩

/-! ### The receiver's moves keep the invariant -/

theorem enter_inv {p : Pos} {st : St} (hrun : Running m) (hrole : m.ctl.roleAct = .receiver)
    (hp : (m.enter st).pos = p) (hrecv : p.isReceiver = true) (hsrc : m.snd.srcOpen = false)
    (hsnk : m.rcv.snkOpen = sinkHeld p) (hat : ReceiverInv (m.enter st)) : Inv (m.enter st) :=
  (inv_iff_receiver hp hrecv hrun.not_stuck).2 ⟨hrun, rfl, timerInv_enter hrole st, hsrc, hsnk, hat⟩

theorem Inv.receiver {p : Pos} (h : Inv s) (hp : s.pos = p) (hrecv : p.isReceiver = true) (hs : s.stuck = none) :
    s.ctl.roleAct = .receiver ∧ Running s ∧ s.snd.srcOpen = false ∧ s.rcv.snkOpen = sinkHeld p ∧ ReceiverInv s := by
  obtain ⟨hrun, -, -, hsrc, hsnk, hat⟩ := (inv_iff_receiver hp hrecv hs).1 h
  exact ⟨State.roleAct_of_isReceiver (hp ▸ hrecv), hrun, hsrc, hsnk, hat⟩

/-- In R1, R2, R3 and R6 `ReceiverInv` says nothing. -/
theorem receiverInv_of_pos {p : Pos} (hp : s.pos = p) (h : p ∉ [Pos.r4, .r5, .r7, .r8]) : ReceiverInv s := by
  subst hp
  revert h
  unfold ReceiverInv
  cases s.pos <;> simp

/-- In each of the other four states `ReceiverInv` says one thing (R37 to R39, R153). -/
theorem receiverInv_of_r4 (hp : s.pos = .r4) (hi : s.rcv.i < 11)
    (hname : (s.name.toList.take s.rcv.i.toNat).all (validNameByte s.cfg.rejectMask) = true) : ReceiverInv s :=
  ⟨fun _ => ⟨hi, hname⟩, by simp [hp], by simp [hp], by simp [hp]⟩

theorem receiverInv_of_r5 (hp : s.pos = .r5) (hi : s.rcv.i = 11)
    (hname : s.name.toList.all (validNameByte s.cfg.rejectMask) = true) : ReceiverInv s :=
  ⟨by simp [hp], fun _ => ⟨hi, hname⟩, by simp [hp], by simp [hp]⟩

theorem receiverInv_of_r7 (hp : s.pos = .r7) (hj : s.rcv.j < 128)
    (hacc : s.rcv.acc = xorAll (s.blk.toList.take s.rcv.j.toNat)) : ReceiverInv s :=
  ⟨by simp [hp], by simp [hp], fun _ => ⟨hj, hacc⟩, by simp [hp]⟩

theorem receiverInv_of_r8 (hp : s.pos = .r8) (hj : s.rcv.j = 128) (hacc : s.rcv.acc = xorChecksum s.blk) :
    ReceiverInv s :=
  ⟨by simp [hp], by simp [hp], by simp [hp], fun _ => ⟨hj, hacc⟩⟩

/-- An await in R1, R2, R3 or R6. -/
theorem enter_plain_inv {p : Pos} {st : St} (hrun : Running m) (hrole : m.ctl.roleAct = .receiver)
    (hp : (m.enter st).pos = p) (hplain : p ∈ [Pos.r1, .r2, .r3, .r6]) (hsrc : m.snd.srcOpen = false)
    (hsnk : m.rcv.snkOpen = sinkHeld p) : Inv (m.enter st) := by
  obtain ⟨hrecv, hother⟩ : p.isReceiver = true ∧ p ∉ [Pos.r4, .r5, .r7, .r8] := by
    revert hplain
    cases p <;> decide
  exact enter_inv hrun hrole hp hrecv hsrc hsnk (receiverInv_of_pos hp hother)

/-- Such an await that leaves every other register as it is. -/
theorem reenter_inv {p p' : Pos} {st : St} (h : Inv s) (hs : s.stuck = none) (hp : s.pos = p)
    (hrecv : p.isReceiver = true) (hp' : s.ctl.roleAct = .receiver → (s.enter st).pos = p')
    (hplain : p' ∈ [Pos.r1, .r2, .r3, .r6]) (hsink : sinkHeld p = sinkHeld p') : Inv (s.enter st) := by
  obtain ⟨hrole, hrun, hsrc, hsnk, -⟩ := h.receiver hp hrecv hs
  exact enter_plain_inv hrun hrole (hp' hrole) hplain hsrc (hsnk.trans hsink)

/-- A buffer filled up to index `i` that takes one more byte there. -/
theorem take_succ_setIfInBounds {n i : Nat} (v : Vector Byte n) (h : i < n) (b : Byte) :
    (v.setIfInBounds i b).toList.take (i + 1) = v.toList.take i ++ [b] := by
  have hlen : i < v.toList.length := by simpa using h
  simp [List.take_add_one, List.take_set_of_le, h]

/-- R225: the received bytes of the name stay valid. -/
theorem take_storeName_valid {b : Byte} (hi : s.rcv.i < 11)
    (hname : (s.name.toList.take s.rcv.i.toNat).all (validNameByte s.cfg.rejectMask) = true)
    (hb : validNameByte s.cfg.rejectMask b = true) :
    ((s.storeName b).name.toList.take (s.rcv.i.toNat + 1)).all (validNameByte s.cfg.rejectMask) = true := by
  rw [State.storeName_name, take_succ_setIfInBounds s.name hi b, List.all_append, hname]
  simp [hb]

/-- R39, R148: the running checksum takes in the stored byte. -/
theorem acc_storePayload {b : Byte} (hj : s.rcv.j < 128) (hacc : s.rcv.acc = xorAll (s.blk.toList.take s.rcv.j.toNat)) :
    s.rcv.acc ^^^ b = xorAll ((s.storePayload b).blk.toList.take (s.rcv.j.toNat + 1)) := by
  rw [State.storePayload_blk, take_succ_setIfInBounds s.blk hj b, xorAll_append, hacc]
  simp

/-- R225: an accepted filename byte. -/
theorem named_inv {b : Byte} (h : Inv s) (hp : s.pos = .r4) (hs : s.stuck = none)
    (hb : validNameByte s.cfg.rejectMask b = true) : Inv (s.storeName b).named := by
  obtain ⟨hrole, hrun, hsrc, hsnk, ⟨hr4, -⟩⟩ := h.receiver hp rfl hs
  obtain ⟨hi, hname⟩ := hr4 hp
  have hvalid := take_storeName_valid hi hname hb
  have enters {p : Pos} {st : St} := enter_inv (m := { s.storeName b with rcv := { s.rcv with i := s.rcv.i + 1 } })
    (p := p) (st := st) hrun hrole
  unfold State.named
  split
  next hlast =>
    have hten : s.rcv.i = 10 := hlast
    have hall : (s.storeName b).name.toList.all (validNameByte s.cfg.rejectMask) = true := by
      have := hten ▸ hvalid
      rwa [List.take_of_length_le (by simp)] at this
    have hp5 : ((s.storeName b).enter .n5).pos = .r5 := by simp [State.pos, hrole]
    exact enters hp5 rfl hsrc hsnk (receiverInv_of_r5 hp5 (by simp [hten]) hall)
  next hmore =>
    have hlt : s.rcv.i.toNat < 11 := hi
    have hnext : (s.rcv.i + 1).toNat = s.rcv.i.toNat + 1 := by
      rw [BitVec.toNat_add, show (1 : BitVec 4).toNat = 1 from rfl]; omega
    have hp4 : ((s.storeName b).enter .n4).pos = .r4 := by simp [State.pos, hrole]
    rw [← hnext] at hvalid
    exact enters hp4 rfl hsrc hsnk (receiverInv_of_r4 hp4 (nameIndex_succ_lt hi hmore) hvalid)

/-- R228: a payload byte. -/
theorem storePayload_inv {b : Byte} (h : Inv s) (hp : s.pos = .r7) (hs : s.stuck = none) :
    Inv ((s.storePayload b).enter (if s.rcv.j = 127 then .n8 else .n7)) := by
  obtain ⟨hrole, hrun, hsrc, hsnk, ⟨-, -, hr7, -⟩⟩ := h.receiver hp rfl hs
  obtain ⟨hj, hacc⟩ := hr7 hp
  have hsum := acc_storePayload (b := b) hj hacc
  have enters {p : Pos} {st : St} := enter_inv (m := s.storePayload b) (p := p) (st := st) hrun hrole
  split
  next hlast =>
    have hfull : s.rcv.acc ^^^ b = xorChecksum (s.storePayload b).blk := by
      have := hlast ▸ hsum
      rwa [List.take_of_length_le (by simp)] at this
    have hp8 : ((s.storePayload b).enter .n8).pos = .r8 := by simp [State.pos, hrole]
    exact enters hp8 rfl hsrc hsnk (receiverInv_of_r8 hp8 (by simp [hlast]) hfull)
  next hmore =>
    have hlt : s.rcv.j.toNat < 128 := hj
    have hnext : (s.rcv.j + 1).toNat = s.rcv.j.toNat + 1 := by
      rw [BitVec.toNat_add, show (1 : BitVec 8).toNat = 1 from rfl]; omega
    have hp7 : ((s.storePayload b).enter .n7).pos = .r7 := by simp [State.pos, hrole]
    rw [← hnext] at hsum
    exact enters hp7 rfl hsrc hsnk (receiverInv_of_r7 hp7 (blockIndex_succ_lt hj hmore) hsum)

/-- R222 to R229: the receiver's response to a byte keeps the invariant. -/
theorem ReceiverMove.inv {b : Byte} {u : State} (hu : ReceiverMove b s u) (h : Inv s) (hw : s.listening = true) :
    Inv u := by
  obtain ⟨hs, -⟩ := (State.listening_iff s).1 hw
  cases hu with
  | r1Ready hp => exact reenter_inv (p' := .r2) h hs hp rfl (fun hr => by simp [State.pos, hr]) (by decide) rfl
  | r1Again hp => exact reenter_inv (p' := .r1) h hs hp rfl (fun hr => by simp [State.pos, hr]) (by decide) rfl
  | r2 hp => exact reenter_inv (p' := .r3) h hs hp rfl (fun hr => by simp [State.pos, hr]) (by decide) rfl
  | r3Named hp =>
    obtain ⟨hrole, hrun, hsrc, hsnk, -⟩ := h.receiver hp rfl hs
    exact enter_inv (m := { s with rcv := { s.rcv with i := 0 } }) (p := .r4) hrun hrole (by simp [State.pos, hrole])
      rfl hsrc hsnk (by simp [ReceiverInv, State.pos, hrole])
  | r3Finishes hp =>
    obtain ⟨hrole, hrun, hsrc, hsnk, -⟩ := h.receiver hp rfl hs
    exact finish_inv hrun hsrc hsnk fun hr => by simp [hrole] at hr
  | r3Rejects hp => exact reenter_inv (p' := .r3) h hs hp rfl (fun hr => by simp [State.pos, hr]) (by decide) rfl
  | r4Accepts hp hb => exact named_inv h hp hs hb
  | r4Rejects hp => exact reenter_inv (p' := .r3) h hs hp rfl (fun hr => by simp [State.pos, hr]) (by decide) rfl
  | r5Opens hp =>
    obtain ⟨hrole, hrun, hsrc, -⟩ := h.receiver hp rfl hs
    exact enter_plain_inv (m := { s with rcv := { s.rcv with snkOpen := true, nblk := 0, nbad := 0 } }) (p := .r6)
      hrun hrole (by simp [State.pos, hrole]) (by decide) hsrc rfl
  | r5Rejects hp => exact reenter_inv (p' := .r3) h hs hp rfl (fun hr => by simp [State.pos, hr]) (by decide) rfl
  | r6Block hp =>
    obtain ⟨hrole, hrun, hsrc, hsnk, -⟩ := h.receiver hp rfl hs
    exact enter_inv (m := { s with rcv := { s.rcv with j := 0, acc := 0 } }) (p := .r7) hrun hrole
      (by simp [State.pos, hrole]) rfl hsrc hsnk (by simp [ReceiverInv, State.pos, hrole])
  | r6Closes hp =>
    obtain ⟨hrole, hrun, hsrc, -⟩ := h.receiver hp rfl hs
    exact enter_plain_inv (p := .r3)
      (m := { s with rcv := { s.rcv with snkOpen := false }, ctl := { s.ctl with filesDone := s.ctl.filesDone + 1 } })
      hrun hrole (by simp [State.pos, hrole]) (by decide) hsrc rfl
  | r6Rejects hp => exact reenter_inv (p' := .r6) h hs hp rfl (fun hr => by simp [State.pos, hr]) (by decide) rfl
  | r7 hp => exact storePayload_inv h hp hs
  | r8Writes hp =>
    obtain ⟨hrole, hrun, hsrc, hsnk, -⟩ := h.receiver hp rfl hs
    exact enter_plain_inv (m := { s with rcv := { s.rcv with nblk := s.rcv.nblk + 1, nbad := 0 } }) (p := .r6)
      hrun hrole (by simp [State.pos, hrole]) (by decide) hsrc hsnk
  | r8Rejects hp =>
    obtain ⟨hrole, hrun, hsrc, hsnk, -⟩ := h.receiver hp rfl hs
    exact enter_plain_inv (m := { s with rcv := { s.rcv with nbad := satInc s.rcv.nbad } }) (p := .r6)
      hrun hrole (by simp [State.pos, hrole]) (by decide) hsrc hsnk

/-! ### The environment's moves keep the invariant -/

/-- R26, R36, R40, R66: outside a session nothing is stuck and no handle is open. -/
theorem Inv.closed_of_not_busy (h : Inv s) (hb : s.ctl.busy = false) :
    s.pos.inSession = false ∧ s.stuck = none ∧ s.snd.srcOpen = false ∧ s.rcv.snkOpen = false := by
  obtain ⟨⟨-, hbusy, -, -, -, -, hstuck, -⟩, -, ⟨hsrc, hsnk⟩, -⟩ := h
  have hp : s.pos.inSession = false := hbusy.symm.trans hb
  obtain ⟨hsource, hsink⟩ : sourceHeld s.pos = false ∧ sinkHeld s.pos = false := by
    revert hp
    cases s.pos <;> simp [Pos.inSession, Pos.isSender, Pos.isReceiver, sourceHeld, sinkHeld]
  refine ⟨hp, ?_, hsrc.trans hsource, hsnk.trans hsink⟩
  cases hq : s.stuck with
  | none => rfl
  | some q =>
    obtain ⟨hbusy', -⟩ := hstuck q hq
    simp [hb] at hbusy'

/-- R52: the registers of reset, and no handle open. -/
theorem inv_of_reset (hctl : s.ctl = Ctl.reset) (hsrc : s.snd.srcOpen = false) (hsnk : s.rcv.snkOpen = false)
    (hs : s.stuck = none) : Inv s := by
  have hp : s.pos = .idle := by simp [State.pos, hctl, Ctl.reset]
  refine inv_of_not_inSession (by rw [hp]; rfl) ?_ hsrc hsnk (by simp [hp])
  simp [StatusInv, hp, hctl, hs, Ctl.reset, Pos.inSession, Pos.isSender, Pos.isReceiver]

/-- R270, R274: START_SEND with an admitted file list. -/
theorem startSender_inv (h : Inv s) (hb : s.ctl.busy = false) (hf : filesAdmitted s.files = true) :
    Inv (s.startSession .sender).startSender := by
  obtain ⟨-, hs, -, hsnk⟩ := h.closed_of_not_busy hb
  have hn : (BitVec.ofNat 16 s.files.length).toNat = s.files.length := by
    simp only [filesAdmitted, Bool.and_eq_true, decide_eq_true_eq] at hf
    rw [BitVec.toNat_ofNat, Nat.mod_eq_of_lt (by omega)]
  refine (inv_iff_noFileYet (s := (s.startSession .sender).startSender) (.inl rfl) hs).2
    ⟨⟨⟨rfl, rfl, rfl, rfl, rfl, rfl, hs⟩, rfl, hsnk, ⟨hf, hn⟩, rfl, rfl⟩, timerInv_goTo _ _⟩

/-- R270: START_RECV. -/
theorem startReceiver_inv (h : Inv s) (hb : s.ctl.busy = false) : Inv (s.startSession .receiver).startReceiver := by
  obtain ⟨-, hs, hsrc, -⟩ := h.closed_of_not_busy hb
  exact enter_plain_inv (p := .r1) ⟨rfl, rfl, rfl, rfl, rfl, rfl, hs⟩ rfl rfl (by decide) hsrc rfl

/-- Every move of the environment keeps the invariant. -/
theorem EnvMove.inv {i : Input} {t : State} (ht : EnvMove i s t) (h : Inv s) : Inv t := by
  cases ht with
  | io => exact h
  | ticks => exact tick_inv h
  | startsSender hb hf => exact startSender_inv h hb hf
  | startsReceiver hb => exact startReceiver_inv h hb
  | configures hb cfg =>
    obtain ⟨hp, -, hsrc, hsnk⟩ := h.closed_of_not_busy hb
    obtain ⟨hstatus, -, -, ⟨-, -, -, hdone⟩, -⟩ := h
    exact inv_of_not_inSession (s := { s with cfg := cfg }) hp hstatus hsrc hsnk hdone
  | lists hb files =>
    obtain ⟨hp, -, hsrc, hsnk⟩ := h.closed_of_not_busy hb
    obtain ⟨hstatus, -, -, ⟨-, -, -, hdone⟩, -⟩ := h
    exact inv_of_not_inSession (s := { s with files := files }) hp hstatus hsrc hsnk hdone
  | resets => exact inv_of_reset rfl rfl rfl rfl

/-! ### The whole step -/

/-- Every turn of the engine keeps the invariant. -/
theorem TurnMove.inv {t : State} (ht : TurnMove s t) (h : Inv s) : Inv t := by
  cases ht with
  | rests => exact h
  | ticks => exact tick_inv h
  | @stuckFails q hq =>
    obtain ⟨⟨-, hbusy, hdone, -, -, -, hstuck, -⟩, -⟩ := id h
    obtain ⟨hb, hrole, hst, hd, hrcv, hsnd⟩ := hstuck q hq
    have hp : s.pos.inSession = true := hbusy.symm.trans hb
    obtain ⟨-, hne, -⟩ := ne_of_inSession hp
    have hm : MidStep s (s.withPending q) :=
      ⟨hrole, hst, hd.trans (by simp [hdone, hne]), hrcv, hsnd, rfl, rfl⟩
    exact abort_inv h hp hm (by decide)
  | aborts hp hm hc => exact abort_inv h hp hm hc
  | stalls hp hm => exact stuckState_inv (s := { s with rxq := _ }) h hp { hm with }
  | acts hs hu hio =>
    obtain ⟨_, _, _, _, rfl⟩ := hio
    exact hu.inv h hs
  | senderTakes hw _ hu hio =>
    obtain ⟨_, _, _, _, rfl⟩ := hio
    exact hu.inv h hw
  | receiverTakes hw _ hu hio =>
    obtain ⟨_, _, _, _, rfl⟩ := hio
    exact hu.inv h hw

/-- Every step keeps the invariant of the endpoint. -/
theorem step_keeps_inv {t : State} (h : Inv s) (ht : step s = .next t) : Inv t := by
  obtain ⟨more, hmove⟩ | ⟨i, more, -, hmove⟩ := step_move ht
  · exact hmove.inv (s := { s with inputs := more }) h
  · exact hmove.inv (s := { s with inputs := more }) h

end

end Sys2Proof.Machine
end

section
/-! The obligations of the state: the invariant, the register port, and what a session leaves unchanged. -/

namespace Sys2Proof.Machine

/-! ### The STATUS word (R44, R49) -/

theorem toNat_append_eq_add {n m : Nat} (hi : BitVec n) (lo : BitVec m) :
    (hi ++ lo).toNat = hi.toNat * 2 ^ m + lo.toNat := by
  rw [BitVec.toNat_append, ← Nat.shiftLeft_add_eq_or_of_lt lo.isLt, Nat.shiftLeft_eq]

/-- The STATUS word as a number, each field at the weight of its position. -/
theorem toNat_statusWord (c : Ctl) :
    (statusWord c).toNat =
      c.busy.toNat + 2 * c.done.toNat + 4 * c.aborted.toNat + 8 * (roleBit c.roleAct).toNat + 16 * c.st.code.toNat +
        2 ^ 8 * (phaseRead c).toNat + 2 ^ 12 * c.cause.code.toNat + 2 ^ 16 * c.msg.code.toNat +
        2 ^ 20 * c.abortSt.code.toNat := by
  unfold statusWord
  rw [toNat_append_eq_add]
  simp only [toNat_append_eq_add, BitVec.toNat_ofBool, BitVec.ofNat_eq_ofNat, BitVec.toNat_ofNat]
  omega

/-- A field of a word, read as a number. -/
theorem extractLsb'_eq_of_toNat {w : Word} {start len : Nat} {v : BitVec len}
    (h : w.toNat / 2 ^ start % 2 ^ len = v.toNat) : w.extractLsb' start len = v := by
  apply BitVec.eq_of_toNat_eq
  rw [BitVec.extractLsb'_toNat, Nat.shiftRight_eq_div_pow, h]

/-- The fields of the STATUS word, each at its position. -/
theorem statusWord_fields (c : Ctl) :
    (statusWord c).extractLsb' 0 1 = BitVec.ofBool c.busy ∧
    (statusWord c).extractLsb' 1 1 = BitVec.ofBool c.done ∧
    (statusWord c).extractLsb' 2 1 = BitVec.ofBool c.aborted ∧
    (statusWord c).extractLsb' 3 1 = roleBit c.roleAct ∧
    (statusWord c).extractLsb' 4 4 = c.st.code ∧
    (statusWord c).extractLsb' 8 1 = phaseRead c ∧
    (statusWord c).extractLsb' 9 3 = 0 ∧
    (statusWord c).extractLsb' 12 4 = c.cause.code ∧
    (statusWord c).extractLsb' 16 4 = c.msg.code ∧
    (statusWord c).extractLsb' 20 4 = c.abortSt.code ∧
    (statusWord c).extractLsb' 24 8 = 0 := by
  have hbusy := Bool.toNat_lt c.busy
  have hdone := Bool.toNat_lt c.done
  have haborted := Bool.toNat_lt c.aborted
  have hrole := (roleBit c.roleAct).isLt
  have hst := c.st.code.isLt
  have hph := (phaseRead c).isLt
  have hcause := c.cause.code.isLt
  have hmsg := c.msg.code.isLt
  have habortSt := c.abortSt.code.isLt
  refine ⟨?_, ?_, ?_, ?_, ?_, ?_, ?_, ?_, ?_, ?_, ?_⟩
  all_goals
    apply extractLsb'_eq_of_toNat
    simp only [toNat_statusWord, BitVec.toNat_ofBool, BitVec.ofNat_eq_ofNat, BitVec.toNat_ofNat]
    omega

/-- R23, R49: PHASE as the statement writes it. -/
theorem phaseRead_eq (c : Ctl) :
    phaseRead c =
      (if c.st = .idle ∨ c.st = .done ∨ c.st = .aborted then 0 else if c.ph = .wait then 1 else 0) := by
  unfold phaseRead
  cases c.st <;> cases c.ph <;> rfl

/-- Settles O36: the fields lie at their positions, and the codes are those of the tables. -/
theorem statusWordFields : Obligations.StatusWordFields := by
  intro s w hw
  obtain rfl : w = statusWord s.ctl := hw
  obtain ⟨hbusy, hdone, haborted, hrole, hst, hph, hlow, hcause, hmsg, habortSt, hhigh⟩ := statusWord_fields s.ctl
  refine ⟨hbusy, hdone, haborted, ?_, ?_, ?_, ?_, ?_, hlow, hhigh⟩
  · rw [hrole]
    cases s.ctl.roleAct <;> rfl
  · rw [hph, phaseRead_eq]
  · rw [hst, habortSt]
    simp +contextual [St.code]
  · rw [hcause]
    simp +contextual [Cause.code]
  · rw [hmsg]
    simp +contextual [Msg.code]

/-! ### Reads and writes of the host (R44 to R50) -/

/-- R46 to R48, R50: the fields after a configuration write outside CTRL. -/
theorem Cfg.write_fields (c : Cfg) {idx : Nat} (v : Word) (h : idx ≠ 0) :
    (c.write idx v).role = c.role ∧
    (c.write idx v).byteDelay = (if idx = 1 then v.truncate 16 else c.byteDelay) ∧
    (c.write idx v).retryLimit = (if idx = 2 then v.truncate 16 else c.retryLimit) ∧
    ∀ w : Fin 8, (c.write idx v).rejectMask[w.val] = if idx = w.val + 3 then v else c.rejectMask[w.val] := by
  unfold Cfg.write
  rw [if_neg h]
  split
  next h1 => simp [h1]
  next h1 =>
    split
    next h2 => simp [h2]
    next h2 =>
      split
      next hmask =>
        refine ⟨rfl, rfl, rfl, fun w => ?_⟩
        have : idx - 3 = w.val ↔ idx = w.val + 3 := by omega
        simp [Vector.getElem_setIfInBounds, this]
      next hother =>
        exact ⟨rfl, rfl, rfl, fun w => (if_neg (by omega)).symm⟩

/-- Settles O37: outside CTRL a write is `Cfg.write`, or ignored while busy. -/
theorem registerWrites : Obligations.RegisterWrites := by
  intro s idx v more hi hidx
  have hstep : step s = .next (State.writeCfg { s with inputs := more } idx v) := by
    rw [step_cons hi]
    simp [applyInput, hostWrite, hidx]
  refine ⟨fun hb => by simp [hstep, State.writeCfg, hb], fun hb => ?_⟩
  exact ⟨s.cfg.write idx v, by simp [hstep, State.writeCfg, hb], s.cfg.write_fields v hidx⟩

/-- R45: CTRL reads ROLE in bit 1. -/
theorem regRead_ctrl (s : State) : regRead s 0x00 = (if s.cfg.role = .receiver then 2 else 0) := by
  unfold regRead
  rw [if_pos rfl]
  cases s.cfg.role <;> decide

/-- R48: the eight words of the mask. -/
theorem regRead_mask (s : State) (w : Fin 8) : regRead s (w.val + 3) = s.cfg.rejectMask[w.val] := by
  unfold regRead
  rw [if_neg (by omega), if_neg (by omega), if_neg (by omega), if_pos (by omega)]
  simp

/-- Settles O38: each word is its register, by the equation of `regRead` at its index. -/
theorem registerReads : Obligations.RegisterReads := by
  refine ⟨fun s idx more hi => step_cons hi, fun s =>
    ⟨regRead_ctrl s, rfl, rfl, regRead_mask s, rfl, ?_, ?_, ?_, fun idx h => ?_⟩⟩
  · change blkIdxWord s = _
    unfold blkIdxWord
    cases s.ctl.roleAct <;> rfl
  · change retryWord s = _
    unfold retryWord
    cases s.ctl.roleAct <;> rfl
  · change offsetWord s = _
    unfold offsetWord
    cases s.ctl.roleAct <;> rfl
  · unfold regRead
    simp (disch := omega) only [if_neg]

/-- Settles O6: the two bits of the word name the command, or write ROLE. -/
theorem stepRunsControlWrite : Obligations.StepRunsControlWrite := by
  intro s w more hi
  have hstep : step s = hostWrite 0x00 w { s with inputs := more } := step_cons hi
  rw [hstep]
  refine ⟨fun hstart hrole => ?_, fun hstart hrole => ?_, fun hstart => ?_⟩
  · simp only [hostWrite, decode, decodeCtrl, hstart, hrole, if_true, Bool.false_eq_true, if_false]
  · simp only [hostWrite, decode, decodeCtrl, hstart, hrole, if_true]
  · simp only [hostWrite, decode, decodeCtrl, hstart, if_true, Bool.false_eq_true, if_false]
    cases hb : s.ctl.busy
    · simp [State.writeCfg, Cfg.write, hb]
    · simp [State.writeCfg, hb]

/-! ### Reset (R52) -/

/-- R52: after reset every register word reads 0. -/
theorem regRead_reset (idx : Nat) : regRead State.reset idx = 0 := by
  have hmask : (State.reset.cfg.rejectMask[idx - 3]?).getD 0 = 0 := by
    change ((Vector.replicate 8 (0 : Word))[idx - 3]?).getD 0 = 0
    rw [Vector.getElem?_replicate]
    split
    · rfl
    · rfl
  unfold regRead
  rw [hmask]
  split_ifs
  all_goals decide

/-- Settles O39: the fields of `State.reset`, and `regRead_reset` for the words the host reads. -/
theorem resetValues : Obligations.ResetValues :=
  ⟨rfl, rfl, rfl, rfl, rfl, rfl, rfl, rfl, rfl, rfl, rfl, rfl, rfl, rfl, rfl, rfl, rfl, rfl, rfl, rfl, regRead_reset⟩

/-- Settles O48: reset writes the registers of `Ctl.reset` and leaves no handle open. -/
theorem resetMeetsInvariant : Obligations.ResetMeetsInvariant := inv_of_reset rfl rfl rfl rfl

/-! ### The invariant -/

/-- Settles O49: every move keeps the whole invariant (`step_keeps_inv`), so the status, timer and handle clauses. -/
theorem stepKeepsStatusTimerHandles : Obligations.StepKeepsStatusTimerHandles := fun _ _ h ht =>
  have ⟨hstatus, htimer, hhandles, _⟩ := step_keeps_inv h ht
  ⟨hstatus, htimer, hhandles⟩

/-- Settles O50: every move keeps the whole invariant (`step_keeps_inv`), so the sender's clauses. -/
theorem stepKeepsSenderInvariant : Obligations.StepKeepsSenderInvariant := fun _ _ h ht =>
  have ⟨_, _, _, hsession, hblock, hsender, _⟩ := step_keeps_inv h ht
  ⟨hsession, hblock, hsender⟩

/-- Settles O51: every move keeps the whole invariant (`step_keeps_inv`), so the receiver's clauses. -/
theorem stepKeepsReceiverInvariant : Obligations.StepKeepsReceiverInvariant := fun _ _ h ht =>
  have ⟨_, _, _, _, _, _, hreceiver⟩ := step_keeps_inv h ht
  hreceiver

/-! ### What a session leaves unchanged -/

@[simp] theorem State.streamed_cfg (s : State) : s.streamed.cfg = s.cfg := by
  unfold State.streamed; split <;> rfl

@[simp] theorem State.streamed_files (s : State) : s.streamed.files = s.files := by
  unfold State.streamed; split <;> rfl

@[simp] theorem State.streamed_blk (s : State) : s.streamed.blk = s.blk := by
  unfold State.streamed; split <;> rfl

@[simp] theorem State.streamed_snd (s : State) : s.streamed.snd = { s.snd with j := s.snd.j + 1 } := by
  unfold State.streamed; split <;> rfl

@[simp] theorem State.tick_cfg (s : State) : s.tick.cfg = s.cfg := by
  unfold State.tick; split <;> rfl

@[simp] theorem State.tick_files (s : State) : s.tick.files = s.files := by
  unfold State.tick; split <;> rfl

@[simp] theorem State.tick_blk (s : State) : s.tick.blk = s.blk := by
  unfold State.tick; split <;> rfl

@[simp] theorem State.tick_snd (s : State) : s.tick.snd = s.snd := by
  unfold State.tick; split <;> rfl

section
variable {s t u : State} {b : Byte}

theorem NextFile.config {x : BitVec 16} (h : NextFile s x u) : u.cfg = s.cfg ∧ u.files = s.files := by
  cases h with
  | opens | finishes => exact ⟨rfl, rfl⟩

theorem ActMove.config (h : ActMove s u) : u.cfg = s.cfg ∧ u.files = s.files := by
  cases h with
  | s2 _ hu => exact hu.config
  | s9 _ hu => exact hu.config
  | s7Streams => simp
  | s1 | s3 | s4 | s5 | s6Ends | s6Announces | s7Assembles | s8 => exact ⟨rfl, rfl⟩

theorem SenderMove.config (h : SenderMove b s u) : u.cfg = s.cfg ∧ u.files = s.files := by
  cases h with
  | s1Ready | s1Again | s3 | s4Echoed | s4Restarts | s5Ready | s5Restarts | s6 | s8Acknowledged | s8Negated =>
    exact ⟨rfl, rfl⟩

theorem ReceiverMove.config (h : ReceiverMove b s u) : u.cfg = s.cfg ∧ u.files = s.files := by
  cases h with
  | r1Ready | r1Again | r2 | r3Named | r3Finishes | r3Rejects | r4Accepts | r4Rejects | r5Opens | r5Rejects | r6Block
  | r6Closes | r6Rejects | r7 | r8Writes | r8Rejects => exact ⟨rfl, rfl⟩

/-- R46 to R48, R274: the engine's turn writes neither the configuration nor the file list. -/
theorem TurnMove.config (h : TurnMove s t) : t.cfg = s.cfg ∧ t.files = s.files := by
  cases h with
  | rests => exact ⟨rfl, rfl⟩
  | ticks => simp
  | @stuckFails q => simp [State.withPending]
  | aborts _ hm => simp [hm.cfg, hm.files]
  | stalls => simp
  | acts _ hu hio =>
    obtain ⟨_, _, _, _, rfl⟩ := hio
    exact hu.config
  | senderTakes _ _ hu hio =>
    obtain ⟨_, _, _, _, rfl⟩ := hio
    exact hu.config
  | receiverTakes _ _ hu hio =>
    obtain ⟨_, _, _, _, rfl⟩ := hio
    exact hu.config

/-- Settles O54: the engine writes neither, and of the environment's moves those that do are the host's while not busy
and the reset. -/
theorem configurationFixedInSession : Obligations.ConfigurationFixedInSession := by
  intro s t ht hb hreset
  obtain ⟨more, hmove⟩ | ⟨m, more, hi, hmove⟩ := step_move ht
  · exact hmove.config
  · cases hmove with
    | io => exact ⟨rfl, rfl⟩
    | ticks => simp
    | startsSender hidle | startsReceiver hidle | configures hidle | lists hidle => simp [hb] at hidle
    | @resets keep hm => exact absurd (hm ▸ hi) (hreset keep more)

/-! ### The held block (R32, R121, R184) -/

/-- The held block, its checksum, its length and its place are those of `s`. -/
def SameBlock (s t : State) : Prop :=
  t.blk = s.blk ∧ t.snd.blkValid = s.snd.blkValid ∧ t.snd.chk = s.snd.chk ∧ t.snd.blen = s.snd.blen ∧
    t.snd.off = s.snd.off

/-- The step from `s` to `t` is the acknowledgement of the held block: 'G' taken in S8. -/
def AcknowledgesBlock (s t : State) : Prop :=
  s.Awaits .s8 ∧ s.rxq = 0x47 :: t.rxq ∧ t.pos = .s6 ∧ t.snd = s.acknowledged.snd

/-- R32: the sender holds a block in S6, S7 and S8 only. -/
theorem Inv.pos_of_blkValid (h : Inv s) (hsend : s.pos.isSender = true) (hv : s.snd.blkValid = true) :
    s.pos = .s6 ∨ s.pos = .s7 ∨ s.pos = .s8 := by
  obtain ⟨-, -, -, -, -, ⟨h12, h345, -, -, -, -, -, -, h9, -⟩, -⟩ := h
  cases hp : s.pos <;> simp [hp, Pos.isSender, atEof, hv] at hsend h12 h345 h9 ⊢

theorem ActMove.sameBlock (hu : ActMove s u) (h : Inv s) (hv : s.snd.blkValid = true) : SameBlock s u := by
  have hheld (hsend : s.pos.isSender = true) := h.pos_of_blkValid hsend hv
  cases hu with
  | s6Announces | s8 => exact ⟨rfl, rfl, rfl, rfl, rfl⟩
  | s7Streams => simp [SameBlock]
  | s6Ends hp he => simp [atEof, hv] at he
  | s7Assembles hp hnone => simp [hv] at hnone
  | s1 hp | s2 hp | s3 hp | s4 hp | s5 hp | s9 hp => simp [hp, Pos.isSender] at hheld

/-- R184: within the sender's responses only 'G' in S8 drops the held block. -/
theorem SenderMove.sameBlock (hu : SenderMove b s u) (h : Inv s) (hv : s.snd.blkValid = true) :
    SameBlock s u ∨ (s.pos = .s8 ∧ b = 0x47 ∧ u = s.acknowledged) := by
  have hheld (hsend : s.pos.isSender = true) := h.pos_of_blkValid hsend hv
  cases hu with
  | s6 | s8Negated => exact .inl ⟨rfl, rfl, rfl, rfl, rfl⟩
  | s8Acknowledged hp hb => exact .inr ⟨hp, hb, rfl⟩
  | s1Ready hp | s1Again hp | s3 hp | s4Echoed hp | s4Restarts hp | s5Ready hp | s5Restarts hp =>
    simp [hp, Pos.isSender] at hheld

theorem ReceiverMove.isReceiver (hu : ReceiverMove b s u) : s.pos.isReceiver = true := by
  cases hu with
  | r1Ready hp | r1Again hp | r2 hp | r3Named hp | r3Finishes hp | r3Rejects hp | r4Accepts hp | r4Rejects hp
  | r5Opens hp | r5Rejects hp | r6Block hp | r6Closes hp | r6Rejects hp | r7 hp | r8Writes hp | r8Rejects hp =>
    rw [hp]; rfl

/-- R184: the held block is as it was, or 'G' in S8 has acknowledged it. -/
theorem TurnMove.sameBlock (ht : TurnMove s t) (h : Inv s) (hsend : s.pos.isSender = true)
    (hv : s.snd.blkValid = true) (hstay : t.pos.isSender = true) :
    SameBlock s t ∨ AcknowledgesBlock s t := by
  cases ht with
  | rests | stalls => exact .inl ⟨rfl, rfl, rfl, rfl, rfl⟩
  | ticks => exact .inl (by simp [SameBlock])
  | stuckFails | aborts => simp [Pos.isSender] at hstay
  | acts _ hu hio =>
    obtain ⟨_, _, _, _, rfl⟩ := hio
    exact .inl (hu.sameBlock h hv)
  | senderTakes hw hq hu hio =>
    obtain ⟨_, _, _, _, rfl⟩ := hio
    obtain hsame | ⟨hp, rfl, rfl⟩ := hu.sameBlock h hv
    · exact .inl hsame
    · refine .inr ⟨⟨hp, hw⟩, hq, ?_, rfl⟩
      have hrole := State.roleAct_of_isSender hsend
      simp [State.pos, hrole]
  | receiverTakes _ _ hu =>
    have hrecv : s.pos.isReceiver = true := hu.isReceiver
    simp [isSender_of_isReceiver hrecv] at hsend

/-- The environment's moves leave a sender's block as it is, or end its session. -/
theorem EnvMove.sameBlock {m : Input} (ht : EnvMove m s t) (hb : s.ctl.busy = true) (hstay : t.pos.isSender = true) :
    SameBlock s t := by
  cases ht with
  | io => exact ⟨rfl, rfl, rfl, rfl, rfl⟩
  | ticks => simp [SameBlock]
  | startsSender hidle | startsReceiver hidle | configures hidle | lists hidle => simp [hb] at hidle
  | resets => simp [State.engineReset, State.pos, Ctl.reset, Pos.isSender] at hstay

/-- Settles O55: a step keeps the held block, or it is the acknowledgement in S8. -/
theorem heldBlockUnchanged : Obligations.HeldBlockUnchanged := by
  intro s t h ht hsend hv hstay
  have hmoved : SameBlock s t ∨ AcknowledgesBlock s t := by
    obtain ⟨more, hmove⟩ | ⟨m, more, -, hmove⟩ := step_move ht
    · exact hmove.sameBlock (s := { s with inputs := more }) h hsend hv hstay
    · obtain ⟨⟨-, hbusy, -⟩, -⟩ := h
      exact .inl (hmove.sameBlock (s := { s with inputs := more }) (hbusy.trans (inSession_of_isSender hsend)) hstay)
  obtain ⟨hblk, hvalid, hchk, hblen, hoff⟩ | ⟨hawaits, hq, hp, hsnd⟩ := hmoved
  · exact ⟨fun _ => ⟨hblk, hchk, hblen, hoff⟩, fun hdropped => by simp [hvalid, hv] at hdropped⟩
  · exact ⟨fun hkept => by simp [hsnd] at hkept, fun _ => ⟨hawaits, hq, hp, by rw [hsnd]; rfl⟩⟩

end

end Sys2Proof.Machine
end

section
/-! The block buffer, the byte that a WAIT step takes, and the line in a transmission (spec/20_memory.md). A step
that transmits is described by the state in which it comes to the line (`Flow.Transmits`); what a line that does not
accept the byte makes of that state is said once. -/

namespace Sys2Proof.Machine

/-! ### The block buffer (R62, R142) -/

/-- R141: byte `t` of a padded block is the `t`-th given byte, or PAD where there is none. -/
theorem padBlock_getElem (p : List Byte) (t : Fin 128) :
    (padBlock p)[t.val] = if h : t.val < p.length then p[t.val] else padByte := by
  simp only [padBlock, Vector.getElem_mk, List.getElem_toArray, List.getElem_take, List.getElem_append,
    List.getElem_replicate]

/-- Settles O43: below the file's length the block is the file, and PAD from there on. -/
theorem paddedBlockLayout : Obligations.PaddedBlockLayout := by
  intro p t _
  refine ⟨fun h => ?_, fun h => ?_⟩
  · rw [padBlock_getElem, dif_pos h]
  · rw [padBlock_getElem, dif_neg (Nat.not_lt.2 h)]
    rfl

/-! ### The byte at the head of the queue (R67, R306) -/

/-- R306: in a WAIT the engine's turn is the state's response to the head byte, taken from the queue. -/
theorem engineStep_of_queued {s : State} {b : Byte} {rest : List Byte} (hw : s.listening = true)
    (hl : s.line ≠ .failed) (hq : s.rxq = b :: rest) : engineStep s = receive b { s with rxq := rest } := by
  rw [engineStep_of_listening hw hl]
  simp only [waitStep, hq, runByte_eq_receive]

/-- Settles O5: the turn is the response to the byte (`engineStep_of_queued`), and so is the instruction it names
(`exec_of_decodeLine`). -/
theorem stepRunsReceivedByte : Obligations.StepRunsReceivedByte := by
  intro s b rest hw hl hq
  have hnil (hi : s.inputs = []) : step s = receive b { s with rxq := rest } := by
    rw [step_nil hi, engineStep_of_queued hw hl hq]
  have hturn (more : List Input) (hi : s.inputs = .turn :: more) :
      step s = receive b { s with rxq := rest, inputs := more } := by
    rw [step_cons hi]
    exact engineStep_of_queued (s := { s with inputs := more }) hw hl hq
  refine ⟨fun i hd => ⟨fun hi => ?_, fun more hi => ?_⟩, fun e _ => ⟨hnil, hturn⟩⟩
  · rw [hnil hi, exec_of_decodeLine hd]
  · rw [hturn more hi, exec_of_decodeLine hd]

/-! ### Steps in which the line does not accept the byte (R66, R186) -/

/-- This part of a step comes to the line first in `m`, with a byte to transmit. -/
def Flow.Transmits (m : State) (f : Flow) : Prop := ∃ b next, f = (m.tx b).andThen next

section
variable {s t m : State}

theorem State.tx_transmits (m : State) (b : Byte) (next : State → Flow) : ((m.tx b).andThen next).Transmits m :=
  ⟨b, next, rfl⟩

theorem State.reply_transmits (m : State) (b : Byte) (st : St) : (m.reply b st).Transmits m := m.tx_transmits b _

theorem Flow.Transmits.notTransmitted {f : Flow} (h : f.Transmits m) : NotTransmitted s m (f.outcome s) := by
  obtain ⟨b, next, rfl⟩ := h
  exact s.tx_notTransmitted m b next

/-- R66, R186: an ACT step that comes to the line in `m`. -/
theorem State.Acts.notTransmitted {p : Pos} (h : s.Acts p) (hp : p.inSession = true)
    (hact : (actFlow s).Transmits m) : NotTransmitted s m (step s) := by
  rw [step_of_acts h hp]
  exact hact.notTransmitted

/-- R66, R230: a response to a byte that comes to the line in `m`. -/
theorem State.Awaits.notTransmitted {p : Pos} (h : s.Awaits p) {b : Byte} (hresp : (respond b s).Transmits m) :
    NotTransmitted s m (receive b s) := by
  obtain ⟨-, hw⟩ := h
  rw [receive_of_listening hw]
  exact hresp.notTransmitted

/-! The sender's transmissions. -/

/-- R170 to R183: the ACT steps that do nothing before their byte. -/
theorem actFlow_transmits {p : Pos} (hp : p ∈ [Pos.s1, .s2, .s3, .s5, .s6, .s8]) (hpos : s.pos = p) :
    (actFlow s).Transmits s := by
  simp only [List.mem_cons, List.not_mem_nil, or_false] at hp
  unfold actFlow
  obtain rfl | rfl | rfl | rfl | rfl | rfl := hp
  case inr.inr.inr.inr.inl =>
    simp only [hpos, actS6]
    split
    · exact s.tx_transmits _ _
    · exact s.tx_transmits _ _
  all_goals
    simp only [hpos]
    exact s.tx_transmits _ _

/-- R176: S4 transmits the filename byte at `i`. -/
theorem actFlow_transmits_of_s4 (hp : s.pos = .s4) {e : Byte} (he : s.nameByte? = some e) :
    (actFlow s).Transmits s := by
  simp only [actFlow, hp, actS4, he]
  exact s.tx_transmits _ _

/-- R283: the delay is an output before every payload byte but the first. -/
theorem State.byteDelay_eq (s : State) :
    s.byteDelay = { s with trace := s.trace ++ if s.snd.j = 0 then [] else [.delay s.cfg.byteDelay] } := by
  unfold State.byteDelay
  split
  next => simp
  next => rfl

/-- R182: S7 transmits the payload byte at `j`, after its delay. -/
theorem actFlow_transmits_of_s7 (hp : s.pos = .s7) (hv : s.snd.blkValid = true) {b : Byte}
    (hb : s.blk[s.snd.j.toNat]? = some b) : (actFlow s).Transmits s.byteDelay := by
  simp only [actFlow, hp, actS7, hv, if_true, State.stream, hb]
  exact s.byteDelay.tx_transmits _ _

/-- R173: past the last file the sequencer transmits XOFF. -/
theorem State.nextFile_transmits {x : BitVec 16} (h : ¬ x < s.snd.n) : (s.nextFile x).Transmits (s.atFile x) :=
  ⟨_, _, if_neg h⟩

/-- R172: with no file listed S2 transmits XOFF after its 'G'. -/
theorem actFlow_transmits_of_s2 (hp : s.pos = .s2) (hl : s.line.accepts = true) (hn : s.snd.n = 0) :
    (actFlow s).Transmits
      { s with trace := s.trace ++ [.tx 0x47], line := s.line.afterByte, snd := { s.snd with k := 0 } } := by
  simp only [actFlow, hp, actS2, State.tx_of_accepts hl]
  exact State.nextFile_transmits (by simp [hn])

/-- R185: after the last file S9 transmits XOFF, the file closed and counted. -/
theorem actFlow_transmits_of_s9 (hp : s.pos = .s9) (hk : ¬ s.snd.k + 1 < s.snd.n) :
    (actFlow s).Transmits { (s.hostCall (.srcClose s.snd.k)).2 with
      snd := { s.snd with srcOpen := false, k := s.snd.k + 1 }
      ctl := { s.ctl with filesDone := s.ctl.filesDone + 1 } } := by
  simp only [actFlow, hp, actS9, State.hostCall_snd, State.hostCall_ctl]
  exact State.nextFile_transmits hk

/-! The receiver's transmissions. -/

/-- R222, R224, R227: the symbols that the receiver answers with nothing done before its byte. -/
theorem respond_transmits_of_awaited {b : Byte} (h : (b, s.pos) ∈ [(0x52, Pos.r1), (0x04, .r3), (0x02, .r6)]) :
    (respond b s).Transmits s := by
  simp only [List.mem_cons, List.not_mem_nil, or_false, Prod.mk.injEq] at h
  unfold respond
  obtain ⟨rfl, hp⟩ | ⟨rfl, hp⟩ | ⟨rfl, hp⟩ := h
  all_goals
    simp only [hp]
    exact s.tx_transmits _ _

/-- R224 to R227: the bytes that the receiver rejects, with nothing done before its reply. -/
theorem receive_notTransmitted_of_rejected {b : Byte}
    (h : (s.Awaits .r3 ∧ b ≠ 0x04 ∧ b ≠ 0x13) ∨ (s.Awaits .r4 ∧ validNameByte s.cfg.rejectMask b = false) ∨
      (s.Awaits .r5 ∧ b ≠ 0x05) ∨ (s.Awaits .r6 ∧ b ≠ 0x02 ∧ b ≠ 0x03)) : NotTransmitted s s (receive b s) := by
  obtain ⟨h, heot, hxoff⟩ | ⟨h, hbad⟩ | ⟨h, henq⟩ | ⟨h, hstx, hetx⟩ := h
  all_goals refine h.notTransmitted ?_
  · simp only [respond, h.1, waitR3, if_neg heot, if_neg hxoff]
    exact s.reply_transmits _ _
  · simp only [respond, h.1, waitR4, hbad, Bool.false_eq_true, if_false]
    exact s.reply_transmits _ _
  · simp only [respond, h.1, waitR5, if_neg henq]
    exact s.reply_transmits _ _
  · simp only [respond, h.1, waitR6, if_neg hstx, if_neg hetx]
    exact s.reply_transmits _ _

/-- R225: a valid filename byte is stored, then echoed. -/
theorem respond_transmits_of_named (hp : s.pos = .r4) (hi : s.rcv.i < 11) {d : Byte}
    (hd : validNameByte s.cfg.rejectMask d = true) : (respond d s).Transmits (s.storeName d) := by
  simp only [respond, hp, waitR4, hd, if_true, if_pos hi]
  exact State.tx_transmits _ _ _

/-- R226: the sink has opened the file. -/
theorem respond_transmits_of_opened (hp : s.pos = .r5) (h : s.hostCall (.snkOpen s.name) = (.ok, t)) :
    (respond 0x05 s).Transmits { t with rcv := { s.rcv with snkOpen := true, nblk := 0, nbad := 0 } } := by
  obtain ⟨-, -, hrcv, -⟩ := State.hostCall_keeps h
  simp only [respond, hp, waitR5, if_true, State.openSink, h, hrcv]
  exact State.reply_transmits _ _ _

/-- R226: the sink has rejected the name. -/
theorem respond_transmits_of_refused (hp : s.pos = .r5) (h : s.hostCall (.snkOpen s.name) = (.fail, t)) :
    (respond 0x05 s).Transmits t := by
  simp only [respond, hp, waitR5, if_true, State.openSink, h]
  exact t.reply_transmits _ _

/-- R229: the sink has written the block. -/
theorem respond_transmits_of_written (hp : s.pos = .r8) (h : s.hostCall (.snkWrite s.blk) = (.ok, t)) :
    (respond s.rcv.acc s).Transmits { t with rcv := { s.rcv with nblk := s.rcv.nblk + 1, nbad := 0 } } := by
  obtain ⟨-, -, hrcv, -⟩ := State.hostCall_keeps h
  simp only [respond, hp, waitR8, if_true, State.writeBlock, h, hrcv]
  exact State.reply_transmits _ _ _

/-- R229: another checksum is counted, then answered with 'B'. -/
theorem respond_transmits_of_mismatch (hp : s.pos = .r8) {c : Byte} (hc : c ≠ s.rcv.acc) :
    (respond c s).Transmits { s with rcv := { s.rcv with nbad := satInc s.rcv.nbad } } := by
  simp only [respond, hp, waitR8, if_neg hc]
  exact State.reply_transmits _ _ _

end

/-- R66, R310: a stuck step does nothing until the line fails, and then it aborts with its writes made. -/
theorem step_of_stuck {s : State} {q : Pending} (hs : s.stuck = some q) (hp : s.pos.inSession = true)
    (hi : s.inputs = []) : step s = stuckStep q s := by
  rw [step_nil hi, engineStep_of_stuck hp hs]

/-- Settles O34: each step comes to the line in the state that the statement names (the lemmas `_transmits`), and
there the line decides (`State.Acts.notTransmitted`, `State.Awaits.notTransmitted`). -/
theorem failureInTransmission : Obligations.FailureInTransmission := by
  refine ⟨fun s p hp h => ?_, fun s f e h hf he => ?_, fun s b h hv hb => ?_, fun s h hl hn => ?_,
    fun s u h hk hu => ?_, fun s i p hip h => ?_, fun s b hb => ?_, fun s d h hi hd => ?_, fun s t h hc => ?_,
    fun s t h hc => ?_, fun s t h hc => ?_, fun s c h hc => ?_, fun s q hs hp hi => ?_⟩
  · have hsession : ∀ p ∈ [Pos.s1, .s2, .s3, .s5, .s6, .s8], p.inSession = true := by decide
    exact h.notTransmitted (hsession p hp) (actFlow_transmits hp h.1)
  · have hname : s.nameByte? = some e := by simp only [State.nameByte?, hf, he]
    exact h.notTransmitted rfl (actFlow_transmits_of_s4 h.1 hname)
  · rw [← State.byteDelay_eq]
    exact h.notTransmitted rfl (actFlow_transmits_of_s7 h.1 hv hb)
  · exact h.notTransmitted rfl (actFlow_transmits_of_s2 h.1 hl hn)
  · subst hu
    exact h.notTransmitted rfl (actFlow_transmits_of_s9 h.1 hk)
  · simp only [List.mem_cons, List.not_mem_nil, or_false, Prod.mk.injEq] at hip
    obtain ⟨rfl, rfl⟩ | ⟨rfl, rfl⟩ | ⟨rfl, rfl⟩ := hip
    all_goals exact h.notTransmitted (respond_transmits_of_awaited (by rw [h.1]; decide))
  · exact receive_notTransmitted_of_rejected hb
  · exact h.notTransmitted (respond_transmits_of_named h.1 hi hd)
  · exact h.notTransmitted (respond_transmits_of_opened h.1 hc)
  · exact h.notTransmitted (respond_transmits_of_refused h.1 hc)
  · exact h.notTransmitted (respond_transmits_of_written h.1 hc)
  · rw [← satInc_eq]
    exact h.notTransmitted (respond_transmits_of_mismatch h.1 hc)
  · rw [step_of_stuck hs hp hi]
    exact ⟨fun hl => if_neg hl, fun hl => if_pos hl⟩

end Sys2Proof.Machine
end

section
/-! The inbound queue over a step (spec/20_memory.md, R67): every part of a step leaves it as it is, but that a WAIT has
taken its head; of the environment's moves only an arriving byte and a reset touch it. -/

namespace Sys2Proof.Machine

/-! ### The queue in the parts of a step -/

/-- Every state that this part of a step leads to has the inbound queue `q`. -/
def Flow.LeavesQueue (q : List Byte) : Flow → Prop
  | .go t | .ended t | .stuck t => t.rxq = q
  | .fault _ | .refused _ => True

@[simp] theorem State.streamed_rxq (s : State) : s.streamed.rxq = s.rxq := by
  unfold State.streamed; split <;> rfl

@[simp] theorem State.byteDelay_rxq (s : State) : s.byteDelay.rxq = s.rxq := by
  unfold State.byteDelay; split <;> rfl

@[simp] theorem State.tick_rxq (s : State) : s.tick.rxq = s.rxq := by
  unfold State.tick; split <;> rfl

section
variable {q : List Byte} {s t : State}

theorem State.abort_leavesQueue (hq : s.rxq = q) (c : Cause) : (Flow.ended (s.abort c)).LeavesQueue q :=
  (s.abort_rxq c).trans hq

/-- R66: a transmission, and what follows it in a state where only the trace and the line differ. -/
theorem State.tx_andThen_leavesQueue (hq : s.rxq = q) (b : Byte) {next : State → Flow}
    (h : ∀ tr l, (next { s with trace := tr, line := l }).LeavesQueue q) :
    ((s.tx b).andThen next).LeavesQueue q := by
  obtain ⟨-, e⟩ | ⟨-, e⟩ | ⟨-, e⟩ | ⟨-, e⟩ := s.tx_cases b
  all_goals rw [e]
  · exact h _ _
  · exact State.abort_leavesQueue (s := { s with line := .failed }) hq _
  · exact State.abort_leavesQueue hq _
  · exact hq

theorem State.reply_leavesQueue (hq : s.rxq = q) (b : Byte) (st : St) : (s.reply b st).LeavesQueue q :=
  State.tx_andThen_leavesQueue hq b fun _ _ => hq

theorem State.nextFile_leavesQueue (hq : s.rxq = q) (x : BitVec 16) : (s.nextFile x).LeavesQueue q := by
  unfold State.nextFile
  dsimp only
  split
  next =>
    split
    next hc =>
      obtain ⟨_, _, _, _, rfl⟩ := State.UpToIO.of_hostCall hc
      exact State.abort_leavesQueue (by exact hq) _
    next hc =>
      obtain ⟨_, _, _, _, rfl⟩ := State.UpToIO.of_hostCall hc
      split
      next => trivial
      next => exact hq
  next => exact State.tx_andThen_leavesQueue (s := s.atFile x) hq _ fun _ _ => hq

theorem State.assemble_leavesQueue (hq : s.rxq = q) : s.assemble.LeavesQueue q := by
  unfold State.assemble
  split
  next =>
    split
    next hc =>
      obtain ⟨_, _, _, _, rfl⟩ := State.UpToIO.of_hostCall hc
      exact State.abort_leavesQueue (by exact hq) _
    next hc =>
      obtain ⟨_, _, _, _, rfl⟩ := State.UpToIO.of_hostCall hc
      split
      next => trivial
      next =>
        split
        next => exact hq
        next => trivial
  next => trivial

theorem State.stream_leavesQueue (hq : s.rxq = q) : s.stream.LeavesQueue q := by
  unfold State.stream
  split
  next => trivial
  next b _ =>
    have hd : s.byteDelay.rxq = q := s.byteDelay_rxq.trans hq
    exact State.tx_andThen_leavesQueue hd b fun tr l =>
      (State.streamed_rxq { s.byteDelay with trace := tr, line := l }).trans hd

theorem State.openSink_leavesQueue (hq : s.rxq = q) : s.openSink.LeavesQueue q := by
  unfold State.openSink
  split
  next hc =>
    obtain ⟨_, _, _, _, rfl⟩ := State.UpToIO.of_hostCall hc
    exact State.reply_leavesQueue (by exact hq) _ _
  next hc =>
    obtain ⟨_, _, _, _, rfl⟩ := State.UpToIO.of_hostCall hc
    exact State.reply_leavesQueue (by exact hq) _ _

theorem State.closeSink_leavesQueue (hq : s.rxq = q) : s.closeSink.LeavesQueue q := by
  unfold State.closeSink
  split
  next hc =>
    obtain ⟨_, _, _, _, rfl⟩ := State.UpToIO.of_hostCall hc
    exact State.abort_leavesQueue (by exact hq) _
  next hc =>
    obtain ⟨_, _, _, _, rfl⟩ := State.UpToIO.of_hostCall hc
    exact hq

theorem State.writeBlock_leavesQueue (hq : s.rxq = q) : s.writeBlock.LeavesQueue q := by
  unfold State.writeBlock
  split
  next hc =>
    obtain ⟨_, _, _, _, rfl⟩ := State.UpToIO.of_hostCall hc
    exact State.abort_leavesQueue (by exact hq) _
  next hc =>
    obtain ⟨_, _, _, _, rfl⟩ := State.UpToIO.of_hostCall hc
    exact State.reply_leavesQueue (by exact hq) _ _

end

/-- R67: an ACT step consumes nothing. -/
theorem actFlow_leavesQueue (s : State) : (actFlow s).LeavesQueue s.rxq := by
  unfold actFlow
  cases s.pos with
  | s1 | s3 | s5 | s8 => exact State.tx_andThen_leavesQueue rfl _ fun _ _ => rfl
  | s2 => exact State.tx_andThen_leavesQueue rfl _ fun _ _ => State.nextFile_leavesQueue rfl _
  | s4 =>
    dsimp only [actS4]
    split
    · trivial
    · exact State.tx_andThen_leavesQueue rfl _ fun _ _ => rfl
  | s6 =>
    dsimp only [actS6]
    split
    · exact State.tx_andThen_leavesQueue rfl _ fun _ _ => rfl
    · exact State.tx_andThen_leavesQueue rfl _ fun _ _ => rfl
  | s7 =>
    dsimp only [actS7]
    split
    · exact State.stream_leavesQueue rfl
    · exact State.assemble_leavesQueue rfl
  | s9 => exact State.nextFile_leavesQueue (by exact s.hostCall_rxq (.srcClose s.snd.k)) _
  | r1 | r2 | r3 | r4 | r5 | r6 | r7 | r8 | idle | done | aborted | unused => rfl

/-- R67: where a byte is awaited, the response consumes no other. -/
theorem respond_leavesQueue {s : State} (hr : s.pos.reading ≠ .nothing) (b : Byte) :
    (respond b s).LeavesQueue s.rxq := by
  unfold respond
  cases hp : s.pos with
  | s1 | s5 =>
    dsimp only [waitS1, waitS5]
    split
    · rfl
    · rfl
  | s3 | s6 | r2 =>
    dsimp only [waitS3, waitS6, waitR2]
    split
    · rfl
    · exact State.abort_leavesQueue rfl _
  | s4 =>
    dsimp only [waitS4]
    split
    · trivial
    · split
      · rfl
      · rfl
  | s8 =>
    dsimp only [waitS8, State.negated]
    split
    · rfl
    · split
      · split
        · exact State.abort_leavesQueue rfl _
        · rfl
      · exact State.abort_leavesQueue rfl _
  | r1 =>
    dsimp only [waitR1]
    split
    · exact State.reply_leavesQueue rfl _ _
    · rfl
  | r3 =>
    dsimp only [waitR3]
    split
    · exact State.tx_andThen_leavesQueue rfl _ fun _ _ => rfl
    · split
      · rfl
      · exact State.reply_leavesQueue rfl _ _
  | r4 =>
    dsimp only [waitR4]
    split
    · split
      · exact State.tx_andThen_leavesQueue rfl _ fun _ _ => rfl
      · trivial
    · exact State.reply_leavesQueue rfl _ _
  | r5 =>
    dsimp only [waitR5]
    split
    · exact State.openSink_leavesQueue rfl
    · exact State.reply_leavesQueue rfl _ _
  | r6 =>
    dsimp only [waitR6]
    split
    · exact State.tx_andThen_leavesQueue rfl _ fun _ _ => rfl
    · split
      · exact State.closeSink_leavesQueue rfl
      · exact State.reply_leavesQueue rfl _ _
  | r7 =>
    dsimp only [waitR7]
    split
    · rfl
    · trivial
  | r8 =>
    dsimp only [waitR8]
    split
    · exact State.writeBlock_leavesQueue rfl
    · exact State.reply_leavesQueue (by rfl) _ _
  | s2 | s7 | s9 | idle | done | aborted | unused => simp [hp, Pos.reading] at hr

/-- R14, R67: a stuck step has the queue it began with, which no part of it changes. -/
theorem Flow.LeavesQueue.rxq_next {m : Flow} {before t : State} (h : m.LeavesQueue before.rxq)
    (ht : m.outcome before = .next t) : t.rxq = before.rxq := by
  obtain rfl | rfl | ⟨u, rfl, rfl⟩ := Flow.outcome_eq_next ht
  · exact h
  · exact h
  · rfl

/-! ### The queue in a step -/

/-- R67, R306: the engine's turn leaves the queue, or is a WAIT that takes its head. -/
theorem EngineTurn.rxq {s t : State} {o : Host.Outcome State Fault Refusal} (h : EngineTurn s o) (ht : o = .next t) :
    t.rxq = s.rxq ∨ (s.listening = true ∧ ∃ b, s.rxq = b :: t.rxq) := by
  cases h with
  | quiescent | stuckWaits =>
    obtain rfl := Host.Outcome.next.inj ht
    exact .inl rfl
  | unusedCode => cases ht
  | stuckFails =>
    obtain rfl := Host.Outcome.next.inj ht
    exact .inl (State.abort_rxq (s.withPending _) _)
  | lineFails | timesOut =>
    obtain rfl := Host.Outcome.next.inj ht
    exact .inl (s.abort_rxq _)
  | @receives b rest _ hw hq =>
    obtain ⟨-, hr, -⟩ := (State.listening_iff s).1 hw
    have hrest : t.rxq = rest := (respond_leavesQueue (s := { s with rxq := rest }) hr b).rxq_next ht
    exact .inr ⟨hw, b, by rw [hq, hrest]⟩
  | waits =>
    obtain rfl := Host.Outcome.next.inj ht
    exact .inl s.tick_rxq
  | acts => exact .inl ((actFlow_leavesQueue s).rxq_next ht)

/-- R67, R340: the inbound queue after a move of the environment. -/
def Input.queueAfter (q : List Byte) : Input → List Byte
  | .arrive b => q ++ [b]
  | .reset keep => if keep then q else []
  | .turn | .tick | .lineFail | .lineFailAfter _ | .lineStallAfter _ | .lineUp | .write _ _ | .read _ | .setFiles _ => q

/-- R44: the host's register writes leave the inbound queue. -/
theorem hostWrite_rxq {s t : State} {idx : Nat} {v : Word} (h : hostWrite idx v s = .next t) : t.rxq = s.rxq := by
  obtain e | e | e := hostWrite_cases idx v s
  all_goals rw [e] at h
  · unfold execStartSend at h
    split at h
    next =>
      obtain rfl := Host.Outcome.next.inj h
      rfl
    next =>
      split at h
      next =>
        obtain rfl := Host.Outcome.next.inj h
        rfl
      next => cases h
  · unfold execStartRecv at h
    split at h
    all_goals
      obtain rfl := Host.Outcome.next.inj h
      rfl
  · obtain rfl := Host.Outcome.next.inj h
    unfold State.writeCfg
    split
    · rfl
    · rfl

/-- R67, R340: the moves of the environment, by what they do to the inbound queue. -/
theorem applyInput_rxq {m : Input} {s t : State} (h : applyInput m s = .next t) (hm : m ≠ .turn) :
    t.rxq = m.queueAfter s.rxq := by
  cases m with
  | turn => exact absurd rfl hm
  | arrive | lineFail | read | reset =>
    obtain rfl := Host.Outcome.next.inj h
    rfl
  | tick =>
    obtain rfl := Host.Outcome.next.inj h
    exact s.tick_rxq
  | lineFailAfter | lineStallAfter | lineUp =>
    obtain rfl := Host.Outcome.next.inj h
    obtain e | ⟨-, e⟩ := setLine_cases _ s
    · rw [e]; rfl
    · rw [e]; rfl
  | write => exact hostWrite_rxq h
  | setFiles files =>
    change hostFiles files s = _ at h
    unfold hostFiles at h
    split at h
    next => cases h
    next =>
      obtain rfl := Host.Outcome.next.inj h
      rfl

/-- Settles O56: the engine's turn leaves the queue or takes its head (`EngineTurn.rxq`), and the environment's moves
change it as `Input.queueAfter` says. -/
theorem queueDiscipline : Obligations.QueueDiscipline := by
  refine ⟨fun s b more hi => step_cons hi, fun s t ht => ?_⟩
  cases hi : s.inputs with
  | nil =>
    obtain hsame | htakes := (engineStep_turn s).rxq (step_nil hi ▸ ht)
    · exact .inl ⟨hsame, nofun⟩
    · exact .inr (.inl htakes)
  | cons m more =>
    rw [step_cons hi] at ht
    cases m with
    | turn =>
      obtain hsame | htakes := (engineStep_turn { s with inputs := more }).rxq ht
      · exact .inl ⟨hsame, nofun⟩
      · exact .inr (.inl htakes)
    | arrive b => exact .inr (.inr (.inl ⟨b, more, rfl, applyInput_rxq ht nofun⟩))
    | reset keep =>
      have hq := applyInput_rxq ht nofun
      cases keep with
      | true => exact .inl ⟨hq, nofun⟩
      | false => exact .inr (.inr (.inr ⟨more, rfl, hq⟩))
    | tick | lineFail | lineFailAfter | lineStallAfter | lineUp | write | read | setFiles =>
      exact .inl ⟨applyInput_rxq ht nofun, nofun⟩

end Sys2Proof.Machine
end

section
/-! The encoding (spec/30_encoding.md): what the decoder reads in each state, said once per kind of state (R83); the
round trip between a byte of the line and the instruction it names there, in both directions; the two bits of CTRL. -/

namespace Sys2Proof.Machine

/-! ### The state selects the decoder (R83) -/

section
variable {p : Pos}

theorem decode_line_of_control (h : p.reading = .control) (b : Byte) : decode p (.line b) = decodeControl p b := by
  simp only [decode, decodeLine, h]

theorem decode_line_of_name (h : p.reading = .name) (b : Byte) : decode p (.line b) = .ok (.fnameByte b) := by
  simp only [decode, decodeLine, h]

theorem decode_line_of_payload (h : p.reading = .payload) (b : Byte) :
    decode p (.line b) = .ok (decodePayload b) := by
  simp only [decode, decodeLine, h]

theorem decode_line_of_checksum (h : p.reading = .checksum) (b : Byte) :
    decode p (.line b) = .ok (.checksumByte b) := by
  simp only [decode, decodeLine, h]

theorem decode_line_of_nothing (h : p.reading = .nothing) (b : Byte) :
    decode p (.line b) = .error .notAwaiting := by
  simp only [decode, decodeLine, h]

end

/-! ### The alphabet (R80, R81) -/

theorem gMeaning_of_sender {p : Pos} (h : p.isSender = true) : gMeaning p = .gAck := if_pos h

theorem gMeaning_of_not_sender {p : Pos} (h : p.isSender = false) : gMeaning p = .gHandshake := by
  simp [gMeaning, h]

/-- The alphabet's bytes, the same in every state. -/
theorem alphabet_bytes (p : Pos) :
    (alphabet p).map Prod.fst =
      [0x02, 0x03, 0x04, 0x05, 0x08, 0x09, 0x13, 0x52, 0x53, 0x47, 0x42, 0x50, 0x4E, 0x58, 0x1A] := rfl

/-- Log 6: control decoding rejects exactly the bytes outside the alphabet. -/
theorem decodeControl_eq_otherByte_iff (p : Pos) (b : Byte) :
    decodeControl p b = .error (.otherByte b) ↔ b ∉ (alphabet p).map Prod.fst := by
  have hnone : (alphabet p).lookup b = none ↔ b ∉ (alphabet p).map Prod.fst := by
    simp only [List.lookup_eq_none_iff, bne_iff_ne, ne_comm (a := b), List.mem_map, not_exists, not_and, ne_eq]
  rw [← hnone]
  unfold decodeControl
  cases (alphabet p).lookup b <;> simp

/-- The instruction is a name of byte `b` of the line in state `p`. -/
def NamesByte (p : Pos) (b : Byte) (i : Instr) : Prop :=
  encode i = .line b ∧ i.wellFormed = true ∧ i.readIn p = true

theorem gMeaning_namesByte {p : Pos} (h : p.reading = .control) : NamesByte p 0x47 (gMeaning p) := by
  cases hs : p.isSender with
  | true => exact gMeaning_of_sender hs ▸ ⟨rfl, rfl, by simp [Instr.readIn, h, hs]⟩
  | false => exact gMeaning_of_not_sender hs ▸ ⟨rfl, rfl, by simp [Instr.readIn, h, hs]⟩

/-- Each entry of the alphabet is an instruction with its own byte. -/
theorem namesByte_of_mem_alphabet {p : Pos} (h : p.reading = .control) :
    ∀ e ∈ alphabet p, NamesByte p e.1 e.2 := by
  simp only [alphabet, List.cons_append, List.nil_append, List.forall_mem_cons, gMeaning_namesByte h, true_and]
  simp [NamesByte, encode, Instr.wellFormed, Instr.readIn, h]

/-! ### The round trip of a byte (R80, R83) -/

/-- A payload byte's name encodes back to it, PAD's own name included (log 8). -/
theorem decodePayload_namesByte {p : Pos} (h : p.reading = .payload) (b : Byte) :
    NamesByte p b (decodePayload b) := by
  unfold decodePayload
  split
  next hpad => exact ⟨by rw [hpad]; rfl, rfl, by simp [Instr.readIn, h]⟩
  next hpad => exact ⟨rfl, by simpa [Instr.wellFormed, payloadNamed] using hpad, by simp [Instr.readIn, h]⟩

/-- What the decoder reads from a byte is a name of that byte. -/
theorem namesByte_of_decode_line {p : Pos} {b : Byte} {i : Instr} (h : decode p (.line b) = .ok i) :
    NamesByte p b i := by
  cases hr : p.reading with
  | control =>
    rw [decode_line_of_control hr] at h
    exact namesByte_of_mem_alphabet hr _ (mem_alphabet_of_decodeControl h)
  | name =>
    rw [decode_line_of_name hr] at h
    obtain rfl := Except.ok.inj h
    exact ⟨rfl, rfl, by simp [Instr.readIn, hr]⟩
  | payload =>
    rw [decode_line_of_payload hr] at h
    obtain rfl := Except.ok.inj h
    exact decodePayload_namesByte hr b
  | checksum =>
    rw [decode_line_of_checksum hr] at h
    obtain rfl := Except.ok.inj h
    exact ⟨rfl, rfl, by simp [Instr.readIn, hr]⟩
  | nothing =>
    rw [decode_line_of_nothing hr] at h
    cases h

/-- The decoder reads from a byte every name of it. -/
theorem decode_line_of_namesByte {p : Pos} {b : Byte} {i : Instr} (h : NamesByte p b i) :
    decode p (.line b) = .ok i := by
  obtain ⟨hb, hwf, hread⟩ := h
  cases i with
  | stx | etx | eot | enq | bs | tab | xoff | symR | symS | symB | symP | symN | symX =>
    obtain rfl := Code.line.inj hb
    rw [decode_line_of_control (of_decide_eq_true hread)]
    rfl
  | gHandshake =>
    obtain rfl := Code.line.inj hb
    obtain ⟨hr, hs⟩ : p.reading = .control ∧ p.isSender = false := by simpa [Instr.readIn] using hread
    rw [decode_line_of_control hr, ← gMeaning_of_not_sender hs]
    rfl
  | gAck =>
    obtain rfl := Code.line.inj hb
    obtain ⟨hr, hs⟩ : p.reading = .control ∧ p.isSender = true := by simpa [Instr.readIn] using hread
    rw [decode_line_of_control hr, ← gMeaning_of_sender hs]
    rfl
  | pad =>
    obtain rfl := Code.line.inj hb
    obtain hr | hr : p.reading = .control ∨ p.reading = .payload := by simpa [Instr.readIn] using hread
    · rw [decode_line_of_control hr]
      rfl
    · rw [decode_line_of_payload hr]
      rfl
  | fnameByte d =>
    obtain rfl := Code.line.inj hb
    exact decode_line_of_name (of_decide_eq_true hread) d
  | payloadByte d =>
    obtain rfl := Code.line.inj hb
    have hpad : d ≠ 0x1A := bne_iff_ne.1 hwf
    rw [decode_line_of_payload (of_decide_eq_true hread), decodePayload, if_neg hpad]
  | checksumByte d =>
    obtain rfl := Code.line.inj hb
    exact decode_line_of_checksum (of_decide_eq_true hread) d
  | startSend | startRecv => cases hb

/-! ### The START and ROLE bits of CTRL (R45, R270) -/

/-- The encoded word of a command decodes to it, in every state. -/
theorem decode_ctrl_of_encode {i : Instr} {w : Word} (h : encode i = .ctrl w) (p : Pos) :
    decode p (.ctrl w) = .ok i := by
  cases i with
  | startSend | startRecv =>
    obtain rfl := Code.ctrl.inj h
    rfl
  | _ => cases h

/-- Words that agree in bits 0 and 1 agree under the mask of START and ROLE. -/
theorem and_three_eq_of_bits {v w : Word} (h0 : v.getLsbD 0 = w.getLsbD 0) (h1 : v.getLsbD 1 = w.getLsbD 1) :
    v &&& 3 = w &&& 3 := by
  have hmask (n : Nat) : (3 : Nat).testBit n = decide (n < 2) := Nat.testBit_two_pow_sub_one 2 n
  apply BitVec.eq_of_getLsbD_eq
  intro n hn
  simp only [BitVec.getLsbD_and, BitVec.ofNat_eq_ofNat, BitVec.getLsbD_ofNat, hmask]
  match n with
  | 0 => rw [h0]
  | 1 => rw [h1]
  | n + 2 => simp

/-- What the decoder reads from a word encodes to a word with the same START and ROLE bits. -/
theorem encode_of_decodeCtrl {w : Word} {i : Instr} (h : decodeCtrl w = .ok i) :
    ∃ e : Word, encode i = .ctrl e ∧ e &&& 3 = w &&& 3 := by
  unfold decodeCtrl at h
  split at h
  next hstart =>
    split at h
    next hrole =>
      obtain rfl := Except.ok.inj h
      exact ⟨3, rfl, and_three_eq_of_bits hstart.symm hrole.symm⟩
    next hrole =>
      obtain rfl := Except.ok.inj h
      exact ⟨1, rfl, and_three_eq_of_bits hstart.symm (Bool.eq_false_iff.2 hrole).symm⟩
  next => cases h

/-! ### The obligations of the encoding -/

/-- Settles O1: an instruction of the line is a name of its byte, which the decoder reads; a command's word decodes in
every state. -/
theorem decodeEncodeAgree : Obligations.DecodeEncodeAgree := by
  intro i p hwf hread
  cases hc : encode i with
  | line b => exact decode_line_of_namesByte ⟨hc, hwf, hread⟩
  | ctrl w => exact decode_ctrl_of_encode hc p

/-- Settles O2: the converse of O1 for bytes, and the two live bits of a CTRL word. -/
theorem decodedCodeEncodesBack : Obligations.DecodedCodeEncodesBack :=
  ⟨fun _ _ _ h => namesByte_of_decode_line h, fun _ _ _ h => encode_of_decodeCtrl h⟩

/-- Settles O3: each listed state has one decoder; control decoding rejects what the alphabet lacks. -/
theorem stateSelectsDecoder : Obligations.StateSelectsDecoder := by
  have hcontrol : ∀ p ∈ [Pos.s1, .s3, .s5, .s6, .s8, .r1, .r2, .r3, .r5, .r6], p.reading = .control := by decide
  have hnothing : ∀ p ∈ [Pos.idle, .s2, .s7, .s9, .done, .aborted, .unused], p.reading = .nothing := by decide
  refine ⟨fun p b hp => ?_, fun b => ?_, fun p b hp => decode_line_of_nothing (hnothing p hp) b⟩
  · rw [decode_line_of_control (hcontrol p hp), decodeControl_eq_otherByte_iff, alphabet_bytes]
  · exact ⟨decode_line_of_name rfl b, decode_line_of_name rfl b, decode_line_of_payload rfl b,
      decode_line_of_checksum rfl b⟩

/-- Settles O4: each word is the encoding of an instruction that its state reads, so O1 decodes it. -/
theorem specWordsDecode : Obligations.SpecWordsDecode :=
  ⟨decodeEncodeAgree .stx .r6 rfl rfl, decodeEncodeAgree .xoff .r3 rfl rfl, decodeEncodeAgree .gHandshake .r2 rfl rfl,
    decodeEncodeAgree .gAck .s8 rfl rfl, decodeEncodeAgree (.payloadByte 0x02) .r7 rfl rfl,
    decodeEncodeAgree .pad .r7 rfl rfl, decodeEncodeAgree (.fnameByte 0x58) .s4 rfl rfl,
    decodeEncodeAgree .startSend .idle rfl rfl, decodeEncodeAgree .startRecv .idle rfl rfl⟩

/-- R83: an instruction of the line runs the state's response to its byte, also where the state does not read it. -/
theorem exec_of_encode_line {i : Instr} {b : Byte} (h : encode i = .line b) (s : State) :
    exec i s = receive b s := by
  cases i with
  | startSend | startRecv => cases h
  | _ =>
    obtain rfl := Code.line.inj h
    rfl

/-- Settles O7: the instruction is its byte's response, which where no byte is awaited leaves the byte queued. -/
theorem meaningDependsOnStateOnly : Obligations.MeaningDependsOnStateOnly := by
  refine ⟨fun i b s h => exec_of_encode_line h s, fun i b s h hw => ?_⟩
  rw [exec_of_encode_line h, receive_of_not_listening hw]

end Sys2Proof.Machine
end

section
/-! The checksum (spec/40_checksum.md): the XOR of a list under a changed byte, a pairwise difference and a run of equal
bytes, each said once; the detection law and the padding law of a block follow from them. -/

namespace Sys2Proof.Machine

/-! ### The XOR of a list (R120, R125) -/

/-- R125: the XOR of the differences is the difference of the XORs. -/
theorem xorAll_zipWith_xor (l m : List Byte) (h : l.length = m.length) :
    xorAll (List.zipWith (· ^^^ ·) l m) = xorAll l ^^^ xorAll m := by
  induction l generalizing m with
  | nil =>
    obtain rfl := List.length_eq_zero_iff.1 h.symm
    rfl
  | cons x l ih =>
    cases m with
    | nil => cases h
    | cons y m =>
      rw [List.zipWith_cons_cons, xorAll_cons, ih m (Nat.succ.inj h), xorAll_cons, xorAll_cons]
      ac_rfl

/-- R125: flipping the bits `e` of one byte flips them in the XOR. -/
theorem xorAll_set_xor (l : List Byte) (i : Nat) (h : i < l.length) (e : Byte) :
    xorAll (l.set i (l[i] ^^^ e)) = xorAll l ^^^ e := by
  induction l generalizing i with
  | nil => cases h
  | cons x l ih =>
    cases i with
    | zero =>
      simp only [List.set_cons_zero, List.getElem_cons_zero, xorAll_cons]
      ac_rfl
    | succ i =>
      simp only [List.set_cons_succ, List.getElem_cons_succ, xorAll_cons]
      rw [ih i (Nat.lt_of_succ_lt_succ h), BitVec.xor_assoc]

/-- R125: equal bytes cancel in pairs. -/
theorem xorAll_replicate (n : Nat) (x : Byte) :
    xorAll (List.replicate n x) = if n % 2 = 1 then x else 0 := by
  induction n with
  | zero => rfl
  | succ n ih =>
    rw [List.replicate_succ, xorAll_cons, ih]
    rcases Nat.mod_two_eq_zero_or_one n with hn | hn
    · rw [if_neg (by omega), if_pos (by omega)]
      exact BitVec.xor_zero
    · rw [if_pos hn, if_neg (by omega)]
      exact BitVec.xor_self

/-! ### The checksum of a block (R120, R124) -/

/-- R124: flipping the bits `e` of one payload byte flips them in the checksum. -/
theorem xorChecksum_set_xor (blk : Vector Byte 128) (t : Nat) (h : t < 128) (e : Byte) :
    xorChecksum (blk.set t (blk[t] ^^^ e)) = xorChecksum blk ^^^ e := by
  have hlist := xorAll_set_xor blk.toList t (by simpa using h) e
  rwa [Vector.getElem_toList, ← Vector.toList_set] at hlist

/-- R124: the checksum of the differences is the difference of the checksums. -/
theorem xorAll_zipWith_blocks (sent got : Vector Byte 128) :
    xorAll (List.zipWith (· ^^^ ·) sent.toList got.toList) = xorChecksum sent ^^^ xorChecksum got :=
  xorAll_zipWith_xor _ _ (by simp)

/-- R124 (b): a single flipped bit is a change. -/
theorem xor_singleBit_ne (c : Byte) (bit : Fin 8) : c ^^^ (1#8 <<< bit.val) ≠ c := by
  have hbit : ∀ b : Fin 8, 1#8 <<< b.val ≠ 0#8 := by decide
  intro h
  exact hbit bit (BitVec.xor_right_inj c |>.1 (h.trans BitVec.xor_zero.symm))

/-- R141: a block of at most 128 given bytes is those bytes and as many PAD as are missing. -/
theorem padBlock_toList_of_le {p : List Byte} (h : p.length ≤ 128) :
    (padBlock p).toList = p ++ List.replicate (128 - p.length) padByte := by
  rw [padBlock_toList, List.take_append, List.take_of_length_le h, List.take_replicate,
    Nat.min_eq_left (Nat.sub_le _ _)]

/-! ### The obligations of the checksum -/

/-- Settles O41: the XOR of all changes is the difference of the checksums (`xorAll_zipWith_blocks`), one flipped bit
is a flipped bit of the checksum, and the same bit flipped in two bytes cancels. -/
theorem checksumDetection : Obligations.ChecksumDetection := by
  refine ⟨fun sent got c => ?_, fun sent t bit => ?_, xor_singleBit_ne, fun sent got hgot => ⟨?_, ?_⟩⟩
  · have hgroup : xorChecksum sent ^^^ xorChecksum got ^^^ (xorChecksum sent ^^^ c) =
        xorChecksum sent ^^^ xorChecksum sent ^^^ (c ^^^ xorChecksum got) := by ac_rfl
    rw [xorAll_zipWith_blocks, hgroup, BitVec.xor_self, BitVec.zero_xor]
    exact BitVec.xor_eq_zero_iff.symm
  · rw [xorChecksum_set_xor]
    exact xor_singleBit_ne _ _
  · intro heq
    have hfirst : got[0] = sent[0] ^^^ 1 := by rw [hgot]; simp
    exact xor_singleBit_ne sent[0] 0 (hfirst.symm.trans (by rw [heq]))
  · have hsecond : sent[1] = (sent.set 0 (sent[0] ^^^ 1))[1] := by simp
    rw [hgot, hsecond, xorChecksum_set_xor, xorChecksum_set_xor, BitVec.xor_assoc, BitVec.xor_self, BitVec.xor_zero]

/-- Settles O42: the block's XOR is that of the given bytes and of a run of PAD (`xorAll_replicate`). -/
theorem paddingInChecksum : Obligations.PaddingInChecksum := by
  intro p h
  rw [xorChecksum, padBlock_toList_of_le h, xorAll_append, xorAll_replicate]
  rfl

end Sys2Proof.Machine
end

section
/-! Blocks and filenames on the wire (spec/41_framer.md): the receiver's pass over a block, one turn per byte; the
sender's assembly; the count of acknowledged blocks; the validity of a filename byte; and the host's codec, field by
field. -/

namespace Sys2Proof.Machine

/-! ### A block received byte by byte (R148, R228) -/

/-- One step and then the others. -/
theorem run_succ_of_next {s t : State} (h : step s = .next t) (n : Nat) :
    Host.Core.run core (n + 1) s = Host.Core.run core n t := by
  have hcore : core.step s = .next t := h
  simp only [Host.Core.run, hcore]

section
variable {s : State} {b : Byte} {rest : List Byte}

/-- R228: in R7 the engine's turn stores the byte at the head of the queue. -/
theorem step_of_payload (hw : s.Awaits .r7) (hi : s.inputs = []) (hl : s.line ≠ .failed) (hj : s.rcv.j < 128)
    (hq : s.rxq = b :: rest) :
    step s = .next ((State.storePayload { s with rxq := rest } b).enter (if s.rcv.j = 127 then .n8 else .n7)) := by
  obtain ⟨hp, hlisten⟩ := hw
  have hp' : State.pos { s with rxq := rest } = .r7 := hp
  rw [step_nil hi, engineStep_of_queued hlisten hl hq, receive_of_listening (s := { s with rxq := rest }) hlisten]
  simp only [respond, hp', waitR7, if_pos hj, Flow.outcome_go]

/-- R221, R228: between two payload bytes the receiver awaits in R7. -/
theorem awaits_after_payload (hw : s.Awaits .r7) :
    State.Awaits ((State.storePayload { s with rxq := rest } b).enter .n7) .r7 := by
  obtain ⟨hp, hlisten⟩ := hw
  obtain ⟨hs, -⟩ := (State.listening_iff s).1 hlisten
  have hrole := State.roleAct_of_isReceiver (s := s) (by rw [hp]; rfl)
  have hp' : State.pos ((State.storePayload { s with rxq := rest } b).enter .n7) = .r7 := by
    simp [State.pos, hrole]
  exact ⟨hp', (State.listening_iff _).2 ⟨hs, by simp [hp', Pos.reading], by simp [hp', Pos.isSender]⟩⟩

/-- R148: a byte stored in the last place completes the block. -/
theorem setIfInBounds_last_eq {v d : Vector Byte 128} (hd : d.toList = v.toList.take 127 ++ [b]) :
    v.setIfInBounds 127 b = d := by
  have hfull := take_succ_setIfInBounds v (i := 127) (by omega) b
  rw [List.take_of_length_le (by simp), ← hd] at hfull
  exact Vector.toList_inj.1 hfull

/-- R148: with bytes `0` to `i - 1` in place, `b` and the bytes after it fill the block. -/
theorem index_add_length_of_toList_eq {v d : Vector Byte 128} {i : Nat} {l : List Byte}
    (hd : d.toList = v.toList.take i ++ b :: l) : i + l.length = 127 := by
  have hlen := congrArg List.length hd
  simp only [Vector.length_toList, List.length_append, List.length_take, List.length_cons] at hlen
  omega

/-- R148, R228: from index `j` of R7 on, one turn per byte takes the rest of the block `d` from the queue and leads to
R8, the bytes added to the running checksum. -/
theorem run_receives_payload (l : List Byte) {d : Vector Byte 128} (hw : s.Awaits .r7) (hi : s.inputs = [])
    (hl : s.line ≠ .failed) (hd : d.toList = s.blk.toList.take s.rcv.j.toNat ++ b :: l)
    (hq : s.rxq = b :: (l ++ rest)) :
    Host.Core.run core (l.length + 1) s = .next { s with
      rxq := rest, blk := d, rcv := { s.rcv with j := 128, acc := s.rcv.acc ^^^ xorAll (b :: l) }
      ctl := { s.ctl with st := .n8, ph := .wait, tmr := 0, tlim := 2000 } } := by
  induction l generalizing s b with
  | nil =>
    have hlast : s.rcv.j = 127 := BitVec.eq_of_toNat_eq (index_add_length_of_toList_eq hd)
    rw [run_succ_of_next (step_of_payload hw hi hl (by rw [hlast]; decide) hq)]
    rw [hlast] at hd
    simp [Host.Core.run, State.enter, State.storePayload, hlast, setIfInBounds_last_eq hd, receiverLimit, byteLimit]
  | cons c l ih =>
    have hlen := index_add_length_of_toList_eq hd
    rw [List.length_cons] at hlen
    have hlt : s.rcv.j.toNat < 127 := by omega
    have hne : s.rcv.j ≠ 127 := fun e => by simp [e] at hlt
    have hnext : (s.rcv.j + 1).toNat = s.rcv.j.toNat + 1 := by
      rw [BitVec.toNat_add, show (1 : BitVec 8).toNat = 1 from rfl]; omega
    have hfill : d.toList = (s.blk.setIfInBounds s.rcv.j.toNat b).toList.take (s.rcv.j + 1).toNat ++ c :: l := by
      rw [hnext, take_succ_setIfInBounds s.blk (by omega) b, hd, List.append_assoc]
      rfl
    have hstep := step_of_payload (rest := c :: (l ++ rest)) hw hi hl (BitVec.lt_def.2 (Nat.lt_succ_of_lt hlt)) hq
    rw [if_neg hne] at hstep
    rw [List.length_cons, run_succ_of_next hstep]
    refine (ih (awaits_after_payload (rest := c :: (l ++ rest)) hw) hi hl hfill rfl).trans ?_
    simp [State.enter, State.storePayload, BitVec.xor_assoc]

end

/-- Settles O59: the rest of the block from index 0 on is the whole of it (`run_receives_payload`). -/
theorem blockReceivedIn128Steps : Obligations.BlockReceivedIn128Steps := by
  intro s d rest hw hi hl hj hacc hq
  obtain ⟨b, l, hbl⟩ := List.exists_cons_of_length_pos (l := d.toList) (by simp)
  have hlen : l.length = 127 := by simpa [hbl] using d.length_toList
  have hsum : s.rcv.acc ^^^ xorAll (b :: l) = xorChecksum d := by
    rw [hacc, ← hbl]
    exact BitVec.zero_xor
  have hrun := run_receives_payload l hw hi hl (by rw [hj, hbl]; rfl) (by rw [hq, hbl]; rfl)
  rwa [hlen, hsum] at hrun

/-! ### Block assembly (R141, R182) -/

theorem length_fileBytes_of_le {data : List Byte} {off n : Nat} (h : off + n ≤ data.length) :
    (fileBytes data off n).length = n := by
  simp only [fileBytes, List.length_take, List.length_drop]
  omega

/-- R141, R142: byte `t` of the block of the `n` file bytes from `off` on, or PAD from `n` on. -/
theorem padBlock_fileBytes_getElem {data : List Byte} {off n : Nat} (h : off + n ≤ data.length) (t : Fin 128) :
    (padBlock (fileBytes data off n))[t.val] = if t.val < n then data.getD (off + t.val) 0 else 0x1A := by
  rw [padBlock_getElem]
  by_cases ht : t.val < n
  · have hin : off + t.val < data.length := by omega
    rw [dif_pos (by rwa [length_fileBytes_of_le h]), if_pos ht]
    simp [fileBytes, hin]
  · rw [dif_neg (by rwa [length_fileBytes_of_le h]), if_neg ht]
    rfl

section
variable {s t : State}

/-- R182: the step of S7 with no block held. -/
theorem step_of_s7_unheld (h : s.Acts .s7) (hv : s.snd.blkValid = false) : step s = s.assemble.outcome s := by
  rw [step_of_acts h rfl]
  obtain ⟨hp, -⟩ := h
  simp [actFlow, hp, actS7, hv]

/-- R141: the file source has yielded the bytes it owes. -/
theorem State.assemble_of_ok (hlt : s.snd.off < s.snd.len)
    (hc : s.hostCall (.srcRead s.snd.k s.snd.off (blockBytes s.snd)) = (.ok, t)) {f : HostFile}
    (hf : s.files[s.snd.k.toNat]? = some f) (hlen : s.snd.off.toNat + blockBytes s.snd ≤ f.data.length) :
    s.assemble = .go (t.assembled (fileBytes f.data s.snd.off.toNat (blockBytes s.snd))) := by
  obtain ⟨-, hsnd, -, -, -, -, -, -, hfiles, -⟩ := State.hostCall_keeps hc
  simp only [State.assemble, if_pos hlt, hc, hfiles, hsnd, hf, length_fileBytes_of_le hlen, if_true]

/-- R141: the read has failed. -/
theorem State.assemble_of_fail (hlt : s.snd.off < s.snd.len)
    (hc : s.hostCall (.srcRead s.snd.k s.snd.off (blockBytes s.snd)) = (.fail, t)) :
    s.assemble = .ended (t.abort .fileIo) := by
  simp only [State.assemble, if_pos hlt, hc]

end

/-- Settles O26: the step is `assemble`, by the host's answer (`State.assemble_of_ok`, `State.assemble_of_fail`), and
the block's bytes are those of `padBlock_fileBytes_getElem`. -/
theorem actOfS7AssemblesBlock : Obligations.ActOfS7AssemblesBlock := by
  intro s n hact hv hlt hn
  obtain rfl : n = blockBytes s.snd := hn
  rw [step_of_s7_unheld hact hv]
  refine ⟨fun t f hc hf hlen => ⟨_, padBlock_fileBytes_getElem hlen, ?_⟩, fun t hc => ?_⟩
  · obtain ⟨-, hsnd, -⟩ := State.hostCall_keeps hc
    rw [State.assemble_of_ok hlt hc hf hlen, Flow.outcome_go, State.assembled, length_fileBytes_of_le hlen, hsnd]
  · rw [State.assemble_of_fail hlt hc, Flow.outcome_ended]

/-! ### The number of blocks (R143, R144) -/

/-- R31, R35, R144: all of the file acknowledged, and no block begun past its end: ⌈L/128⌉ blocks. -/
theorem blockCount_eq {nblk len : Nat} (hall : len = min (128 * nblk) len) (hlast : 128 * nblk < len + 128) :
    nblk = (len + 127) / 128 := by
  omega

/-- Settles O45: in S9 the sender is at EOF (`SenderInv`), where `BlockInv` fixes the count (`blockCount_eq`). -/
theorem blockCountAtFileEnd : Obligations.BlockCountAtFileEnd := by
  intro s ⟨_, _, _, _, hblock, ⟨_, _, _, _, _, _, _, _, heof, _⟩, _⟩ hp
  obtain ⟨hvalid, hoff⟩ : s.snd.blkValid = false ∧ s.snd.off = s.snd.len := by simpa [atEof] using heof hp
  obtain ⟨f, -, -, hmul, hlast, -⟩ := hblock (by rw [hp]; rfl)
  exact ⟨blockCount_eq (hoff ▸ hmul) hlast, hoff, hvalid⟩

/-! ### A filename byte (R152) -/

/-- R48: the mask's bit of a byte, in the one word that holds it. -/
theorem rejects_eq_false_iff (mask : Vector Word 8) (b : Byte) :
    rejects mask b = false ↔ ∀ w : Fin 8, w.val = b.toNat / 32 → mask[w.val].getLsbD (b.toNat % 32) = false := by
  have hw : b.toNat / 32 < 8 := by omega
  simp only [rejects, Vector.getElem?_eq_getElem hw]
  exact ⟨fun h w e => by simpa only [e] using h, fun h => h ⟨_, hw⟩ rfl⟩

/-- Settles O44: the range test, and the mask's bit (`rejects_eq_false_iff`). -/
theorem filenameByteValidity : Obligations.FilenameByteValidity := by
  intro mask b
  rw [← rejects_eq_false_iff]
  simp [validNameByte, BitVec.le_def, and_assoc]

/-! ### The host's codec (R155 to R157) -/

/-- R155: the bytes of an admitted name. -/
theorem printable_iff (b : Byte) : printable b = true ↔ 0x20 ≤ b ∧ b ≤ 0x7E := by
  simp [printable, BitVec.le_def]

/-- R155: a name of printable bytes has the wire form of its two fields, and no other name has one. -/
theorem toWire_eq_some_iff (s w : List Byte) :
    toWire s = some w ↔ s.all printable = true ∧ wireField 8 (stemOf s) ++ wireField 3 (extOf s) = w := by
  simp [toWire]

theorem length_wireField (width : Nat) (s : List Byte) : (wireField width s).length = width := by
  simp only [wireField, List.length_append, List.length_take, List.length_replicate]
  omega

/-- R155: a field that fits is not truncated. -/
theorem wireField_of_le {width : Nat} {s : List Byte} (h : s.length ≤ width) :
    wireField width s = s.map asciiUpper ++ List.replicate (width - s.length) 0x20 := by
  rw [wireField, List.take_of_length_le (by simpa using h), List.length_map]

/-- R155: a small letter has its capital 0x20 below it. -/
theorem toNat_asciiUpper_of_small {b : Byte} (h : 0x61 ≤ b.toNat ∧ b.toNat ≤ 0x7A) :
    (asciiUpper b).toNat = b.toNat - 0x20 := by
  rw [asciiUpper, if_pos h]
  bv_omega

theorem asciiUpper_of_not_small {b : Byte} (h : ¬ (0x61 ≤ b.toNat ∧ b.toNat ≤ 0x7A)) : asciiUpper b = b :=
  if_neg h

/-- R156: lower case after upper case is lower case. -/
theorem asciiLower_asciiUpper (b : Byte) : asciiLower (asciiUpper b) = asciiLower b := by
  by_cases h : 0x61 ≤ b.toNat ∧ b.toNat ≤ 0x7A
  · have hup := toNat_asciiUpper_of_small h
    rw [asciiLower, asciiLower, if_pos (by omega), if_neg (by omega)]
    bv_omega
  · rw [asciiUpper_of_not_small h]

/-- R155: only the space is mapped to the space. -/
theorem eq_space_of_asciiUpper_eq_space {b : Byte} (h : asciiUpper b = 0x20) : b = 0x20 := by
  by_cases hb : 0x61 ≤ b.toNat ∧ b.toNat ≤ 0x7A
  · have hup := toNat_asciiUpper_of_small hb
    bv_omega
  · rwa [asciiUpper_of_not_small hb] at h

/-- R156: the spaces after a text that does not end in one are stripped, and no more. -/
theorem stripSpaces_append_replicate {s : List Byte} (h : s.getLast? ≠ some 0x20) (n : Nat) :
    stripSpaces (s ++ List.replicate n 0x20) = s := by
  change List.rdropWhile (· == 0x20) (s ++ List.replicate n 0x20) = s
  induction n with
  | zero =>
    rw [List.replicate_zero, List.append_nil, List.rdropWhile_eq_self_iff]
    intro hne hlast
    exact h (by rw [List.getLast?_eq_some_getLast hne, eq_of_beq hlast])
  | succ n ih => rw [List.replicate_succ', ← List.append_assoc, List.rdropWhile_concat_pos _ _ _ rfl, ih]

/-- R157: a field comes back in lower case. -/
theorem map_asciiLower_stripSpaces_wireField {width : Nat} {s : List Byte} (hlen : s.length ≤ width)
    (hlast : s.getLast? ≠ some 0x20) : (stripSpaces (wireField width s)).map asciiLower = s.map asciiLower := by
  have hupper : (s.map asciiUpper).getLast? ≠ some 0x20 := by
    rw [List.getLast?_map]
    intro h
    obtain ⟨b, hb, hspace⟩ := Option.map_eq_some_iff.1 h
    exact hlast (hb.trans (congrArg some (eq_space_of_asciiUpper_eq_space hspace)))
  rw [wireField_of_le hlen, stripSpaces_append_replicate hupper, List.map_map]
  exact List.map_congr_left fun b _ => asciiLower_asciiUpper b

/-- R156, R157: the wire form of a stem and an extension within the conditions of R157 (b). -/
theorem fromWire_wireFields {stem ext : List Byte} (hstem : stem.length ≤ 8) (hext : ext.length ≤ 3)
    (hstem' : stem.getLast? ≠ some 0x20) (hext' : ext.getLast? ≠ some 0x20) :
    fromWire (wireField 8 stem ++ wireField 3 ext) =
      if ext = [] then stem.map asciiLower else stem.map asciiLower ++ dot :: ext.map asciiLower := by
  simp [fromWire, length_wireField, List.take_of_length_le,
    map_asciiLower_stripSpaces_wireField hstem hstem', map_asciiLower_stripSpaces_wireField hext hext']

section
variable {stem : List Byte} (hdot : dot ∉ stem)
include hdot

theorem bne_dot_of_not_mem : ∀ b ∈ stem, (b != dot) = true := fun b hb => by
  simpa using fun e : b = dot => hdot (e ▸ hb)

theorem stemOf_of_no_dot : stemOf stem = stem := List.takeWhile_eq_self_iff.2 (bne_dot_of_not_mem hdot)

theorem extOf_of_no_dot : extOf stem = [] := by
  rw [extOf, List.dropWhile_eq_nil_iff.2 (bne_dot_of_not_mem hdot)]
  rfl

theorem stemOf_append_dot (ext : List Byte) : stemOf (stem ++ dot :: ext) = stem := by
  rw [stemOf, List.takeWhile_append_of_pos (bne_dot_of_not_mem hdot), List.takeWhile_cons_of_neg (by decide),
    List.append_nil]

/-- R155: the extension is the text after the first dot where no other follows. -/
theorem extOf_append_dot {ext : List Byte} (hext : dot ∉ ext) : extOf (stem ++ dot :: ext) = ext := by
  rw [extOf, List.dropWhile_append_of_pos (bne_dot_of_not_mem hdot), List.dropWhile_cons_of_neg (by decide)]
  exact stemOf_of_no_dot hext

end

/-- Settles O47: the lengths of the two fields, the domain of `toWire`, and the round trip field by field
(`fromWire_wireFields`). -/
theorem hostCodecLaws : Obligations.HostCodecLaws := by
  refine ⟨fun s w h => ?_, fun s => ?_, fun stem ext w hdot hdot' hlen hlen' hne hlast hlast' h => ?_,
    fun stem w hdot hlen hlast h => ?_⟩
  · obtain ⟨-, rfl⟩ := (toWire_eq_some_iff s w).1 h
    rw [List.length_append, length_wireField, length_wireField]
  · simp [toWire_eq_some_iff, printable_iff]
  · obtain ⟨-, rfl⟩ := (toWire_eq_some_iff _ w).1 h
    rw [stemOf_append_dot hdot, extOf_append_dot hdot hdot', fromWire_wireFields hlen hlen' hlast hlast', if_neg hne,
      List.map_append]
    rfl
  · obtain ⟨-, rfl⟩ := (toWire_eq_some_iff _ w).1 h
    rw [stemOf_of_no_dot hdot, extOf_of_no_dot hdot, fromWire_wireFields hlen (by simp) hlast (by simp), if_pos rfl]

end Sys2Proof.Machine
end

section
/-! The sender's state machine (spec/42_sender_fsm.md): the response of each WAIT phase to a byte, said once per state;
the ACT step of each state on a line that accepts its byte, with the file sequencer that S2 and S9 share; and the pass
of S7 over a held block. -/

namespace Sys2Proof.Machine

/-! ### The WAIT phases (R171 to R184) -/

/-- R309, R321: in a silent WAIT whose timer has reached its limit the engine's turn aborts, in every state alike. -/
theorem timesOutIn (p : Pos) : TimesOutIn p := by
  rintro s ⟨-, hw⟩ hi hl hq hlim htmr
  rw [step_nil hi, engineStep_of_listening hw hl]
  simp only [waitStep, hq, hlim, htmr, if_true]

section
variable {s : State} {e : Byte}

/-- R171: 'S' or another byte in S1. -/
theorem receive_in_s1 (h : s.Awaits .s1) (b : Byte) :
    receive b s = .next (if b = 0x53 then s.goTo .n2 else s.goTo .n1) := by
  rw [receive_of_listening h.2]
  simp only [respond, h.1, waitS1]
  split
  · rfl
  · rfl

/-- R175: BS or another byte in S3. -/
theorem receive_in_s3 (h : s.Awaits .s3) (b : Byte) :
    receive b s = .next (if b = 0x08 then s.goTo .n4 else s.abort .unexpected) := by
  rw [receive_of_listening h.2]
  simp only [respond, h.1, waitS3]
  split
  · rfl
  · rfl

/-- R177: the echo of `F[k].name[i]` or another byte in S4. -/
theorem receive_in_s4 (h : s.Awaits .s4) (he : s.nameByte? = some e) (b : Byte) :
    receive b s = .next (if b = e then s.echoed else s.goTo .n3) := by
  rw [receive_of_listening h.2]
  simp only [respond, h.1, waitS4, he]
  split
  · rfl
  · rfl

/-- R179: TAB or another byte in S5. -/
theorem receive_in_s5 (h : s.Awaits .s5) (b : Byte) :
    receive b s = .next (if b = 0x09 then s.goTo .n6 else s.goTo .n3) := by
  rw [receive_of_listening h.2]
  simp only [respond, h.1, waitS5]
  split
  · rfl
  · rfl

/-- R181: 'P' or another byte in S6. -/
theorem receive_in_s6 (h : s.Awaits .s6) (b : Byte) :
    receive b s =
      .next (if b = 0x50 then State.goTo { s with snd := { s.snd with j := 0 } } .n7 else s.abort .unexpected) := by
  rw [receive_of_listening h.2]
  simp only [respond, h.1, waitS6]
  split
  · rfl
  · rfl

/-- R184: 'G', or another byte that is not 'B', in S8. -/
theorem receive_in_s8 (h : s.Awaits .s8) {b : Byte} (hb : b ≠ 0x42) :
    receive b s = .next (if b = 0x47 then s.acknowledged else s.abort .unexpected) := by
  rw [receive_of_listening h.2]
  simp only [respond, h.1, waitS8, if_neg hb]
  split
  · rfl
  · rfl

/-- R184, R276: 'B' in S8. -/
theorem receive_symB_in_s8 (h : s.Awaits .s8) : receive 0x42 s = s.negated.outcome s := by
  rw [receive_of_listening h.2]
  simp only [respond, h.1]
  rfl

end

/-- Settles O8: both branches of `receive_in_s1`, and `timesOutIn`. -/
theorem awaitReceiverReadyInS1 : Obligations.AwaitReceiverReadyInS1 := by
  refine ⟨fun s h => receive_in_s1 h 0x53, fun s b h hb => ?_, timesOutIn _⟩
  rw [receive_in_s1 h, if_neg hb]
  rfl

/-- Settles O9: both branches of `receive_in_s3`, and `timesOutIn`. -/
theorem awaitFilenameRequestInS3 : Obligations.AwaitFilenameRequestInS3 := by
  refine ⟨fun s h => receive_in_s3 h 0x08, fun s b h hb => ?_,
    fun s h => ⟨receive_in_s3 h 0x58, receive_in_s3 h 0x4E⟩, timesOutIn _⟩
  rw [receive_in_s3 h, if_neg hb]

/-- Settles O10: both branches of `receive_in_s4`, and `timesOutIn`. -/
theorem awaitEchoInS4 : Obligations.AwaitEchoInS4 := by
  refine ⟨fun s f e h hf he => ?_, timesOutIn _⟩
  have hname : s.nameByte? = some e := by simp only [State.nameByte?, hf, he]
  have hmismatch (d : Byte) (hd : d ≠ e) : receive d s = .next (s.goTo .n3) := by
    rw [receive_in_s4 h hname, if_neg hd]
  refine ⟨?_, hmismatch, fun hx => hmismatch 0x58 hx.symm⟩
  change receive e s = _
  rw [receive_in_s4 h hname, if_pos rfl]
  rfl

/-- Settles O11: both branches of `receive_in_s5`, and `timesOutIn`. -/
theorem awaitReadyForDataInS5 : Obligations.AwaitReadyForDataInS5 := by
  refine ⟨fun s h => receive_in_s5 h 0x09, fun s b h hb => ?_, fun s h => receive_in_s5 h 0x58, timesOutIn _⟩
  rw [receive_in_s5 h, if_neg hb]
  rfl

/-- Settles O12: both branches of `receive_in_s6`, and `timesOutIn`. -/
theorem awaitProceedInS6 : Obligations.AwaitProceedInS6 := by
  refine ⟨fun s h => receive_in_s6 h 0x50, fun s b h hb => ?_, fun s h => receive_in_s6 h 0x4E, timesOutIn _⟩
  rw [receive_in_s6 h, if_neg hb]

/-- Settles O13: `receive_in_s8` for every byte but 'B', the two branches of `State.negated` for 'B', and
`timesOutIn`. -/
theorem awaitAcknowledgementInS8 : Obligations.AwaitAcknowledgementInS8 := by
  refine ⟨fun s h => receive_in_s8 h (b := 0x47) (by decide), fun s h hbound => ?_, fun s h hlimit hretry => ?_,
    fun s b h hG hB => ?_, fun s h => receive_in_s8 h (b := 0x4E) (by decide), timesOutIn _⟩
  · have hleft : ¬ (s.cfg.retryLimit ≠ 0 ∧ s.snd.retry = s.cfg.retryLimit) := fun ⟨hlimit, hretry⟩ =>
      hbound.elim hlimit (· hretry)
    rw [exec_of_encode_line rfl, receive_symB_in_s8 h, State.negated, if_neg hleft, satInc_eq]
    rfl
  · rw [exec_of_encode_line rfl, receive_symB_in_s8 h, State.negated, if_pos ⟨hlimit, hretry⟩]
    rfl
  · rw [receive_in_s8 h hB, if_neg hG]

/-! ### The ACT phases that transmit one byte (R170 to R183) -/

/-- R15, R66: the end of a step that transmits and goes on, where the line accepts the byte. -/
theorem outcome_tx_of_accepts {s : State} (hl : s.line.accepts = true) (before : State) (b : Byte)
    (next : State → Flow) :
    ((s.tx b).andThen next).outcome before =
      (next { s with trace := s.trace ++ [.tx b], line := s.line.afterByte }).outcome before := by
  rw [State.tx_of_accepts hl, Flow.andThen_go]

/-- Settles O22: each of the five ACT steps is one transmission and an await. -/
theorem actPhasesThatAwaitReply : Obligations.ActPhasesThatAwaitReply := by
  refine ⟨fun s h hl => ?_, fun s h hl => ?_, fun s h hl => ?_, fun s h hl => ?_, fun s f e h hl hf he => ?nameByte⟩
  case nameByte =>
    have hname : s.nameByte? = some e := by simp only [State.nameByte?, hf, he]
    rw [step_of_acts h rfl]
    simp only [actFlow, h.1, actS4, hname]
    exact outcome_tx_of_accepts hl s _ _
  all_goals
    rw [step_of_acts h rfl]
    simp only [actFlow, h.1]
    exact outcome_tx_of_accepts hl s _ _

/-- Settles O25: the two branches of `actS6`. -/
theorem actOfS6AnnouncesBlockOrEnd : Obligations.ActOfS6AnnouncesBlockOrEnd := by
  refine ⟨fun s h hl hv hoff => ?_, fun s h hl hmore => ?_⟩
  all_goals
    rw [step_of_acts h rfl]
    simp only [actFlow, h.1, actS6]
  · have heof : atEof s.snd = true := by simp [atEof, hv, hoff]
    rw [if_pos heof]
    exact outcome_tx_of_accepts hl s _ _
  · have heof : ¬ atEof s.snd = true := by
      simp only [atEof, Bool.and_eq_true, Bool.not_eq_true', beq_iff_eq]
      rintro ⟨hv, hoff⟩
      simp [hv, hoff] at hmore
    rw [if_neg heof]
    exact outcome_tx_of_accepts hl s _ _

/-! ### The file sequencer, in S2 and S9 (R172, R173, R185) -/

section
variable {s m t : State} {x : BitVec 16}

/-- R172: S2 transmits 'G' and goes to the first file. -/
theorem step_of_s2 (h : s.Acts .s2) (hl : s.line.accepts = true) :
    step s = (State.nextFile { s with trace := s.trace ++ [.tx 0x47], line := s.line.afterByte } 0).outcome s := by
  rw [step_of_acts h rfl]
  simp only [actFlow, h.1]
  exact outcome_tx_of_accepts hl s _ _

/-- R185: S9 closes the file, counts it and goes to the next. -/
theorem step_of_s9 (h : s.Acts .s9) :
    step s = (State.nextFile { (s.hostCall (.srcClose s.snd.k)).2 with
      snd := { s.snd with srcOpen := false }
      ctl := { s.ctl with filesDone := s.ctl.filesDone + 1 } } (s.snd.k + 1)).outcome s := by
  rw [step_of_acts h rfl]
  simp only [actFlow, h.1, actS9, State.hostCall_snd, State.hostCall_ctl]

/-! A step that comes to the file sequencer in `m`, for file `x`. -/

variable (hstep : step s = (m.nextFile x).outcome s)
include hstep

/-- R173: the host opens file `x`, and S3 is next. -/
theorem step_of_nextFile_ok (hx : x < m.snd.n) (hc : (m.atFile x).hostCall (.srcOpen x) = (.ok, t)) {f : HostFile}
    (hf : m.files[x.toNat]? = some f) : step s = .next ((t.openedFile f).goTo .n3) := by
  obtain ⟨-, -, -, -, -, -, -, -, hfiles, -⟩ := State.hostCall_keeps hc
  unfold State.atFile at hc hfiles
  rw [hstep]
  simp only [State.nextFile, if_pos hx, hc, hfiles, hf, Flow.outcome_go]

/-- R173: the host does not open file `x`. -/
theorem step_of_nextFile_fail (hx : x < m.snd.n) (hc : (m.atFile x).hostCall (.srcOpen x) = (.fail, t)) :
    step s = .next (t.abort .fileIo) := by
  unfold State.atFile at hc
  rw [hstep]
  simp only [State.nextFile, if_pos hx, hc, Flow.outcome_ended]

/-- R173, R314: past the last file XOFF ends the session. -/
theorem step_of_nextFile_last (hx : ¬ x < m.snd.n) (hl : m.line.accepts = true) :
    step s =
      .next (State.finish { m.atFile x with trace := m.trace ++ [.tx 0x13], line := m.line.afterByte }) := by
  have hlast : m.nextFile x = ((m.atFile x).tx 0x13).andThen fun t => .ended t.finish := if_neg hx
  rw [hstep, hlast]
  exact outcome_tx_of_accepts (s := m.atFile x) hl s _ _

end

/-- Settles O23: 'G' (`step_of_s2`), then the file sequencer at file 0. -/
theorem actOfS2OpensFirstFile : Obligations.ActOfS2OpensFirstFile := by
  refine ⟨fun s h hl hl' hn => ?_, fun s s1 h hl hn hs1 => ⟨fun t f hc hf => ?_, fun t hc => ?_⟩⟩
  · rw [step_of_nextFile_last (step_of_s2 h hl) (by simp [hn]) hl', List.append_assoc]
    rfl
  · subst hs1
    obtain ⟨hctl, hsnd, -⟩ := State.hostCall_keeps hc
    rw [step_of_nextFile_ok (step_of_s2 h hl) hn hc hf, State.goTo, State.openedFile, hctl, hsnd]
  · subst hs1
    exact step_of_nextFile_fail (step_of_s2 h hl) hn hc

/-- Settles O24: the close (`step_of_s9`), then the file sequencer at the next file. -/
theorem actOfS9EndsFile : Obligations.ActOfS9EndsFile := by
  rintro s u s1 h rfl rfl
  refine ⟨fun hk hl => ?_, fun hk => ⟨fun t f hc hf => ?_, fun t hc => ?_⟩⟩
  · rw [step_of_nextFile_last (step_of_s9 h) hk (by simpa using hl), State.hostCall_line]
    rfl
  · obtain ⟨hctl, hsnd, -⟩ := State.hostCall_keeps hc
    rw [step_of_nextFile_ok (step_of_s9 h) hk hc (by simpa using hf), State.goTo, State.openedFile, hctl, hsnd]
  · exact step_of_nextFile_fail (step_of_s9 h) hk hc

/-! ### A block streamed byte by byte (R182, R283) -/

/-- R182: the step of S7 with a block held. -/
theorem step_of_s7_held {s : State} (h : s.Acts .s7) (hv : s.snd.blkValid = true) : step s = s.stream.outcome s := by
  rw [step_of_acts h rfl]
  simp only [actFlow, h.1, actS7, if_pos hv]

/-- R182: `j` advances, and after the last byte S8 is next. -/
theorem State.streamed_eq (s : State) : s.streamed = { s with
    snd := { s.snd with j := s.snd.j + 1 }
    ctl := if s.snd.j = 127 then { s.ctl with st := .n8, ph := .act } else s.ctl } := by
  unfold State.streamed
  split
  · rfl
  · rfl

/-- Settles O27: the delay (`State.byteDelay_eq`), the byte, and the moves after it (`State.streamed_eq`). -/
theorem actOfS7StreamsBlock : Obligations.ActOfS7StreamsBlock := by
  intro s b h hl hv hb
  have hline : s.byteDelay.line.accepts = true := by rwa [State.byteDelay_eq]
  rw [step_of_s7_held h hv, State.stream, hb]
  dsimp only
  rw [outcome_tx_of_accepts hline, Flow.outcome_go, State.streamed_eq, State.byteDelay_eq, List.append_assoc]

/-- R283: what S7 puts out for the bytes `l` of a block after its first. -/
def delayedBytes (ms : BitVec 16) (l : List Byte) : List Output := (l.map fun b => [.delay ms, .tx b]).flatten

section
variable {s : State} {b : Byte}

theorem delayedBytes_cons (ms : BitVec 16) (l : List Byte) :
    delayedBytes ms (b :: l) = [.delay ms] ++ ([.tx b] ++ delayedBytes ms l) := rfl

/-- R182: the byte at `j` is the first of those still to be sent, and `l` those after it. -/
theorem rest_of_block {blk : Vector Byte 128} {j : Nat} {l : List Byte} (hd : blk.toList.drop j = b :: l) :
    blk[j]? = some b ∧ j + l.length = 127 ∧ blk.toList.drop (j + 1) = l := by
  have hfirst : blk.toList[j]? = some b := by rw [← List.head?_drop, hd, List.head?_cons]
  have hlen : 128 - j = l.length + 1 := by simpa using congrArg List.length hd
  refine ⟨by simpa using hfirst, by omega, ?_⟩
  rw [← List.tail_drop, hd, List.tail_cons]

/-- R182: one byte of the held block, on a line that is up and stays so. -/
theorem step_of_s7_on_up (h : s.Acts .s7) (hline : s.line = .up) (hv : s.snd.blkValid = true)
    (hb : s.blk[s.snd.j.toNat]? = some b) :
    step s = .next { s with
      trace := s.trace ++ ((if s.snd.j = 0 then [] else [.delay s.cfg.byteDelay]) ++ [.tx b])
      snd := { s.snd with j := s.snd.j + 1 }
      ctl := if s.snd.j = 127 then { s.ctl with st := .n8, ph := .act } else s.ctl } := by
  have hup : s.line.afterByte = s.line := by rw [hline]; rfl
  rw [actOfS7StreamsBlock s b h (by rw [hline]; rfl) hv hb, hup]

/-- R182, R283: from index `j` of S7 on, one turn per byte transmits the rest of the held block and leads to S8. -/
theorem run_streams_block (l : List Byte) (h : s.Acts .s7) (hline : s.line = .up) (hv : s.snd.blkValid = true)
    (hd : s.blk.toList.drop s.snd.j.toNat = b :: l) :
    Host.Core.run core (l.length + 1) s = .next { s with
      trace := s.trace ++ ((if s.snd.j = 0 then [] else [.delay s.cfg.byteDelay]) ++ [.tx b]) ++
        delayedBytes s.cfg.byteDelay l
      snd := { s.snd with j := 128 }
      ctl := { s.ctl with st := .n8, ph := .act } } := by
  induction l generalizing s b with
  | nil =>
    obtain ⟨hb, hlast, -⟩ := rest_of_block hd
    have hj : s.snd.j = 127 := BitVec.eq_of_toNat_eq hlast
    rw [run_succ_of_next (step_of_s7_on_up h hline hv hb)]
    simp [Host.Core.run, hj, delayedBytes]
  | cons c l ih =>
    obtain ⟨hb, hlen, hrest⟩ := rest_of_block hd
    rw [List.length_cons] at hlen
    have hne : s.snd.j ≠ 127 := fun e => by simp [e] at hlen
    have hnext : (s.snd.j + 1).toNat = s.snd.j.toNat + 1 := BitVec.toNat_add_of_lt (by simp; omega)
    have hpos : s.snd.j + 1 ≠ 0 := BitVec.toNat_ne.2 (by rw [hnext]; exact Nat.succ_ne_zero _)
    have hstep := step_of_s7_on_up h hline hv hb
    rw [if_neg hne] at hstep
    rw [List.length_cons, run_succ_of_next hstep]
    refine Eq.trans (ih h hline hv (by rw [hnext]; exact hrest)) ?_
    simp only [if_neg hpos, delayedBytes_cons, List.append_assoc]

end

/-- Settles O58: the rest of the block from index 0 on is the whole of it (`run_streams_block`). -/
theorem blockStreamsIn128Steps : Obligations.BlockStreamsIn128Steps := by
  intro s h hline hv hj
  obtain ⟨b, l, hbl⟩ := List.exists_cons_of_length_pos (l := s.blk.toList) (by simp)
  have hlen : l.length = 127 := by simpa [hbl] using s.blk.length_toList
  have hrun := run_streams_block l h hline hv (by rw [hj]; exact hbl)
  rw [hlen, hj, if_pos rfl] at hrun
  rw [hrun, hbl, List.append_assoc]
  rfl

end Sys2Proof.Machine
end

section
/-! The receiver's state machine (spec/43_receiver_fsm.md): the response of each state R1 to R8 to a byte. On a line
that accepts it, a reply is one output and the await of the next state, whatever the step has done before it. -/

namespace Sys2Proof.Machine

section
variable {s : State}

/-! ### The response of each state (R92) -/

theorem receive_in_r1 (h : s.Awaits .r1) (b : Byte) : receive b s = (waitR1 b s).outcome s := by
  simp only [receive_of_listening h.2, respond, h.1]

theorem receive_in_r2 (h : s.Awaits .r2) (b : Byte) : receive b s = (waitR2 b s).outcome s := by
  simp only [receive_of_listening h.2, respond, h.1]

theorem receive_in_r3 (h : s.Awaits .r3) (b : Byte) : receive b s = (waitR3 b s).outcome s := by
  simp only [receive_of_listening h.2, respond, h.1]

theorem receive_in_r4 (h : s.Awaits .r4) (b : Byte) : receive b s = (waitR4 b s).outcome s := by
  simp only [receive_of_listening h.2, respond, h.1]

theorem receive_in_r5 (h : s.Awaits .r5) (b : Byte) : receive b s = (waitR5 b s).outcome s := by
  simp only [receive_of_listening h.2, respond, h.1]

/-- R226: ENQ in R5. -/
theorem exec_enq_in_r5 (h : s.Awaits .r5) : exec .enq s = s.openSink.outcome s := receive_in_r5 h 0x05

theorem receive_in_r6 (h : s.Awaits .r6) (b : Byte) : receive b s = (waitR6 b s).outcome s := by
  simp only [receive_of_listening h.2, respond, h.1]

/-- R227: ETX in R6. -/
theorem exec_etx_in_r6 (h : s.Awaits .r6) : exec .etx s = s.closeSink.outcome s := receive_in_r6 h 0x03

theorem receive_in_r7 (h : s.Awaits .r7) (b : Byte) : receive b s = (waitR7 b s).outcome s := by
  simp only [receive_of_listening h.2, respond, h.1]

theorem receive_in_r8 (h : s.Awaits .r8) (b : Byte) : receive b s = (waitR8 b s).outcome s := by
  simp only [receive_of_listening h.2, respond, h.1]

/-- R229: the checksum that R8 expects. -/
theorem exec_checksumByte_in_r8 (h : s.Awaits .r8) :
    exec (.checksumByte s.rcv.acc) s = s.writeBlock.outcome s := by
  rw [exec_of_encode_line rfl, receive_in_r8 h, waitR8, if_pos rfl]

/-! ### Replies and awaits (R221) -/

/-- R221: `T(Rn)` is 2000 ms but in R1. -/
theorem State.enter_of_ne {st : St} (h : st ≠ .n1) (s : State) :
    s.enter st = { s with ctl := { s.ctl with st := st, ph := .wait, tmr := 0, tlim := 2000 } } := by
  rw [State.enter, receiverLimit, if_neg h]
  rfl

/-- R221: the end of a step that replies from `m`, the line and the control registers untouched up to there, and does
not go back to R1. The line accepts the byte. -/
theorem outcome_reply_of_accepts {m : State} (hl : s.line.accepts = true) (hline : m.line = s.line)
    (hctl : m.ctl = s.ctl) (b : Byte) {st : St} (h : st ≠ .n1) :
    (m.reply b st).outcome s = .next { m with
      trace := m.trace ++ [.tx b], line := s.line.afterByte
      ctl := { s.ctl with st := st, ph := .wait, tmr := 0, tlim := 2000 } } := by
  have hl' : m.line.accepts = true := by rwa [hline]
  rw [State.reply_of_accepts hl', Flow.outcome_go, State.enter_of_ne h, hline, hctl]

/-- R228: a payload byte within the block. -/
theorem receive_payload (h : s.Awaits .r7) (hj : s.rcv.j < 128) (d : Byte) : receive d s = .next { s with
    blk := s.blk.setIfInBounds s.rcv.j.toNat d
    rcv := { s.rcv with acc := s.rcv.acc ^^^ d, j := s.rcv.j + 1 }
    ctl := { s.ctl with st := if s.rcv.j = 127 then .n8 else .n7, ph := .wait, tmr := 0, tlim := 2000 } } := by
  have hst : (if s.rcv.j = 127 then St.n8 else St.n7) ≠ .n1 := by split <;> decide
  rw [receive_in_r7 h, waitR7, if_pos hj, Flow.outcome_go, State.enter_of_ne hst]
  rfl

end

/-! ### The obligations -/

/-- Settles O14: the two branches of `waitR1`, and `timesOutIn`. -/
theorem awaitSenderReadyInR1 : Obligations.AwaitSenderReadyInR1 := by
  refine ⟨fun s h hl => ?_, fun s b h hb => ?_, timesOutIn _⟩
  · exact (receive_in_r1 h 0x52).trans (outcome_reply_of_accepts hl rfl rfl _ (by decide))
  · rw [receive_in_r1 h, waitR1, if_neg hb]
    rfl

/-- Settles O15: the two branches of `waitR2`, and `timesOutIn`. -/
theorem awaitHandshakeInR2 : Obligations.AwaitHandshakeInR2 := by
  refine ⟨fun s h => receive_in_r2 h 0x47, fun s b h hb => ?_, timesOutIn _⟩
  rw [receive_in_r2 h, waitR2, if_neg hb]
  rfl

/-- Settles O16: the three branches of `waitR3`, and `timesOutIn`. -/
theorem awaitFileOrEndInR3 : Obligations.AwaitFileOrEndInR3 := by
  refine ⟨fun s h hl => ?_, fun s h => receive_in_r3 h 0x13, fun s b h hl heot hxoff => ?_, timesOutIn _⟩
  · exact (receive_in_r3 h 0x04).trans (outcome_tx_of_accepts hl s _ _)
  · rw [receive_in_r3 h, waitR3, if_neg heot, if_neg hxoff, outcome_reply_of_accepts hl rfl rfl _ (by decide)]

/-- Settles O17: the branches of `waitR4` but the index that is out of range, and `timesOutIn`. -/
theorem awaitFilenameByteInR4 : Obligations.AwaitFilenameByteInR4 := by
  refine ⟨fun s d h hl hi hvalid => ?_, fun s d h hl hbad => ?_, timesOutIn _⟩
  · have hst : (if s.rcv.i = 10 then St.n5 else St.n4) ≠ .n1 := by split <;> decide
    rw [exec_of_encode_line rfl, receive_in_r4 h, waitR4, if_pos hvalid, if_pos hi,
      outcome_tx_of_accepts (s := s.storeName d) hl]
    exact congrArg _ (State.enter_of_ne hst _)
  · rw [exec_of_encode_line rfl, receive_in_r4 h, waitR4, hbad, if_neg Bool.false_ne_true,
      outcome_reply_of_accepts hl rfl rfl _ (by decide)]

/-- Settles O18: the host's two answers to the open, the other branch of `waitR5`, and `timesOutIn`. -/
theorem awaitFilenameEndInR5 : Obligations.AwaitFilenameEndInR5 := by
  refine ⟨fun s t h hl hc => ?_, fun s t h hl hc => ?_, fun s b h hl hb => ?_, timesOutIn _⟩
  · obtain ⟨hctl, -, hrcv, -, -, -, -, hline, -⟩ := State.hostCall_keeps hc
    rw [exec_enq_in_r5 h, State.openSink, hc, ← hrcv]
    exact outcome_reply_of_accepts (m := { t with rcv := { t.rcv with snkOpen := true, nblk := 0, nbad := 0 } })
      hl hline hctl _ (by decide)
  · obtain ⟨hctl, -, -, -, -, -, -, hline, -⟩ := State.hostCall_keeps hc
    rw [exec_enq_in_r5 h, State.openSink, hc]
    exact outcome_reply_of_accepts hl hline hctl _ (by decide)
  · rw [receive_in_r5 h, waitR5, if_neg hb, outcome_reply_of_accepts hl rfl rfl _ (by decide)]

/-- Settles O19: the three branches of `waitR6`, with the host's two answers to the close, and `timesOutIn`. -/
theorem awaitBlockOrFileEndInR6 : Obligations.AwaitBlockOrFileEndInR6 := by
  refine ⟨fun s h hl => ?_, fun s t h hc => ?_, fun s t h hc => ?_, fun s b h hl hstx hetx => ?_, timesOutIn _⟩
  · exact (receive_in_r6 h 0x02).trans (outcome_tx_of_accepts hl s _ _)
  · obtain ⟨hctl, -, hrcv, -⟩ := State.hostCall_keeps hc
    rw [exec_etx_in_r6 h, State.closeSink, hc, ← hctl, ← hrcv]
    rfl
  · rw [exec_etx_in_r6 h, State.closeSink, hc]
    rfl
  · rw [receive_in_r6 h, waitR6, if_neg hstx, if_neg hetx, outcome_reply_of_accepts hl rfl rfl _ (by decide)]

/-- Settles O20: `receive_payload`, of which PAD is one value, and `timesOutIn`. -/
theorem awaitPayloadInR7 : Obligations.AwaitPayloadInR7 :=
  ⟨fun _ d h hj => receive_payload h hj d, fun _ h hj => receive_payload h hj 0x1A, timesOutIn _⟩

/-- Settles O21: the host's two answers to the write, the other branch of `waitR8`, and `timesOutIn`. -/
theorem awaitChecksumInR8 : Obligations.AwaitChecksumInR8 := by
  refine ⟨fun s t h hl hc => ?_, fun s t h hc => ?_, fun s c h hl hne => ?_, timesOutIn _⟩
  · obtain ⟨hctl, -, hrcv, -, -, -, -, hline, -⟩ := State.hostCall_keeps hc
    rw [exec_checksumByte_in_r8 h, State.writeBlock, hc, ← hrcv]
    exact outcome_reply_of_accepts (m := { t with rcv := { t.rcv with nblk := t.rcv.nblk + 1, nbad := 0 } })
      hl hline hctl _ (by decide)
  · rw [exec_checksumByte_in_r8 h, State.writeBlock, hc]
    rfl
  · rw [exec_of_encode_line rfl, receive_in_r8 h, waitR8, if_neg hne, ← satInc_eq]
    exact outcome_reply_of_accepts (m := { s with rcv := { s.rcv with nbad := satInc s.rcv.nbad } })
      hl rfl rfl _ (by decide)

end Sys2Proof.Machine
end

section
/-! Session control, the host's side and two endpoints (spec/44_session.md): the two START commands of an endpoint that
is not busy, what one output does to the sink, and what the ideal line carries. -/

namespace Sys2Proof.Machine

/-! ### START (R270, R274) -/

theorem HostFile.admitted_iff (f : HostFile) :
    f.admitted = true ↔ f.name.length = 11 ∧ f.data.length < 2 ^ 32 := by
  rw [HostFile.admitted, Bool.and_eq_true, decide_eq_true_iff, decide_eq_true_iff]

theorem filesAdmitted_iff (files : List HostFile) :
    filesAdmitted files = true ↔
      files.length ≤ 65535 ∧ ∀ f ∈ files, f.name.length = 11 ∧ f.data.length < 2 ^ 32 := by
  simp only [filesAdmitted, Bool.and_eq_true, decide_eq_true_iff, List.all_eq_true, HostFile.admitted_iff]

/-- R274: the bounds that a refused list breaks. -/
theorem filesAdmitted_eq_false_iff (files : List HostFile) :
    filesAdmitted files = false ↔
      65535 < files.length ∨ ∃ f ∈ files, f.name.length ≠ 11 ∨ 2 ^ 32 ≤ f.data.length := by
  rw [← Bool.not_eq_true, filesAdmitted_iff, not_and_or, not_le]
  refine or_congr_right ?_
  push Not
  simp only [ne_eq, imp_iff_not_or]

theorem execStartSend_of_admitted {s : State} (hb : s.ctl.busy = false) (hf : filesAdmitted s.files = true) :
    execStartSend s = .next (s.startSession .sender).startSender := by
  simp [execStartSend, hb, hf]

theorem execStartSend_of_not_admitted {s : State} (hb : s.ctl.busy = false) (hf : filesAdmitted s.files = false) :
    execStartSend s = .refused .fileListNotAdmitted := by
  simp [execStartSend, hb, hf]

theorem execStartRecv_of_not_busy {s : State} (hb : s.ctl.busy = false) :
    execStartRecv s = .next (s.startSession .receiver).startReceiver := by
  simp [execStartRecv, hb]

/-- Settles O28: an admitted list runs the writes of START and S1's entry, and a list that breaks a bound is refused. -/
theorem startSendOpensSession : Obligations.StartSendOpensSession :=
  ⟨fun s hb hlen hfiles => execStartSend_of_admitted hb ((filesAdmitted_iff s.files).2 ⟨hlen, hfiles⟩),
    fun s hb hbad => execStartSend_of_not_admitted hb ((filesAdmitted_eq_false_iff s.files).2 hbad)⟩

/-- Settles O29: START and `enter(R1)`, whose limit is the handshake's. -/
theorem startRecvOpensSession : Obligations.StartRecvOpensSession :=
  fun _ hb => execStartRecv_of_not_busy hb

/-! ### The sink (R277) -/

/-- R277: only an open and a write that the host answers with ok change the sink. -/
theorem sinkAfter_of_other {o : Output} (files : List SinkFile) (hopen : ∀ name, o ≠ .host (.snkOpen name) .ok)
    (hwrite : ∀ blk, o ≠ .host (.snkWrite blk) .ok) : sinkAfter files o = files := by
  cases o with
  | tx | delay | regRead => rfl
  | host op a =>
    cases a with
    | fail => cases op <;> rfl
    | ok =>
      cases op with
      | snkOpen name => exact absurd rfl (hopen name)
      | snkWrite blk => exact absurd rfl (hwrite blk)
      | srcOpen | srcRead | srcClose | snkClose => rfl

/-- Settles O46: the three cases of `sinkAfter`, at the last output of the trace. -/
theorem sinkContents : Obligations.SinkContents := by
  refine ⟨fun tr name => sinkFiles_append_one tr _, fun tr blk f rest h => ?_, fun tr o hopen hwrite => ?_⟩
  · rw [sinkFiles_append_one, h, sinkAfter]
  · rw [sinkFiles_append_one, sinkAfter_of_other _ hopen hwrite]

/-! ### The ideal line (R278 to R280) -/

/-- R280: with no fault listed the line carries every byte. -/
@[simp] theorem carry_nil_faults (bs : List Byte) : carry bs [] = bs := by
  induction bs with
  | nil => rfl
  | cons b bs ih => rw [carry, ih]

/-- R279: the bytes of a step are those that its new outputs put on the line. -/
theorem txBytes_eq_append_transmitted {s t : State} (h : step s = .next t) :
    txBytes t.trace = txBytes s.trace ++ transmitted s t := by
  obtain ⟨⟨new, hnew⟩, -⟩ := outputsOnlyAppended s t h
  rw [transmitted, hnew, List.drop_left, txBytes_append]

/-- Settles O60: the bytes sent are `transmitted`, and the ideal line carries them as they are. -/
theorem idealLineDeliversInOrder : Obligations.IdealLineDeliversInOrder := by
  refine ⟨fun l a' h => ⟨_, txBytes_eq_append_transmitted h, ?_⟩,
    fun l b' h => ⟨_, txBytes_eq_append_transmitted h, ?_⟩⟩
  · simp only [Link.move, h, carry_nil_faults, State.deliver]
  · simp only [Link.move, h, carry_nil_faults, State.deliver]

end Sys2Proof.Machine
end

section
/-! Exceptions and the timer (spec/60_exceptions.md): a START of a busy endpoint, the entry of an abort, a failed line,
the timer; and, over one walk through the two state machines, which cause can end which step. -/

namespace Sys2Proof.Machine

/-! ### Writes of the host while busy (R45 to R48, R328) -/

section
variable {s : State}

theorem execStartSend_of_busy (hb : s.ctl.busy = true) : execStartSend s = .next s := by
  simp [execStartSend, hb]

theorem execStartRecv_of_busy (hb : s.ctl.busy = true) : execStartRecv s = .next s := by
  simp [execStartRecv, hb]

theorem State.writeCfg_of_busy (hb : s.ctl.busy = true) (idx : Nat) (v : Word) : s.writeCfg idx v = s := by
  simp [State.writeCfg, hb]

/-- R45 to R48, R328: a busy endpoint ignores every register write. -/
theorem hostWrite_of_busy (hb : s.ctl.busy = true) (idx : Nat) (v : Word) : hostWrite idx v s = .next s := by
  obtain e | e | e := hostWrite_cases idx v s
  · rw [e, execStartSend_of_busy hb]
  · rw [e, execStartRecv_of_busy hb]
  · rw [e, State.writeCfg_of_busy hb]

end

/-- Settles O30: both commands answer the state they begin in, and so does the CTRL write that names them. -/
theorem startWhileBusyIgnored : Obligations.StartWhileBusyIgnored := by
  refine ⟨fun s hb => ⟨execStartSend_of_busy hb, execStartRecv_of_busy hb⟩, fun s w more hb hi _ => ?_⟩
  rw [step_cons hi]
  exact hostWrite_of_busy (s := { s with inputs := more }) hb 0x00 w

/-! ### The entry of an abort (R302, R303, R310) -/

/-- R310: the handle of the session's role is released, if it is open. -/
theorem State.releaseHandles_eq (s : State) : s.releaseHandles =
    if s.ctl.roleAct = .sender ∧ s.snd.srcOpen = true then
      { (s.hostCall (.srcClose s.snd.k)).2 with snd := { s.snd with srcOpen := false } }
    else if s.ctl.roleAct = .receiver ∧ s.rcv.snkOpen = true then
      { (s.hostCall .snkClose).2 with rcv := { s.rcv with snkOpen := false } }
    else s := by
  unfold State.releaseHandles
  cases s.ctl.roleAct with
  | sender => simp
  | receiver => simp

/-- R310: an abort transmits nothing. -/
theorem State.txBytes_abort (s : State) (c : Cause) : txBytes (s.abort c).trace = txBytes s.trace := by
  change txBytes s.releaseHandles.trace = _
  rw [State.releaseHandles_eq]
  split
  · simp
  · split
    · simp
    · rfl

/-- Settles O31: the release of the handle (`State.releaseHandles_eq`), the writes of `Ctl.abort`, and R302's table of
messages by role and state. -/
theorem abortEntry : Obligations.AbortEntry := by
  intro s t c ht
  obtain rfl : t = s.releaseHandles := ht.trans s.releaseHandles_eq.symm
  refine ⟨?_, s.txBytes_abort c⟩
  unfold State.abort Ctl.abort
  cases hr : s.ctl.roleAct with
  | sender => by_cases hst : s.ctl.st = .n1 <;> simp [msgOf, hr, hst]
  | receiver => by_cases hst : s.ctl.st = .n1 <;> simp [msgOf, hr, hst]

/-! ### A failed line (R308, R309) -/

section
variable {s t : State}

@[simp] theorem State.tick_line (s : State) : s.tick.line = s.line := by
  unfold State.tick; split <;> rfl

/-- R308, R309: a failed line comes before everything else that the turn could do. -/
theorem busyStep_of_line_failed (hl : s.line = .failed) : busyStep s = .next (s.abort .lineIo) := by
  simp [busyStep, hl]

/-- R308: no turn of the engine brings a failed line up. -/
theorem EngineTurn.line_failed {o : Host.Outcome State Fault Refusal} (h : EngineTurn s o) (hl : s.line = .failed)
    (ht : o = .next t) : t.line = .failed := by
  cases h with
  | quiescent =>
    obtain rfl := Host.Outcome.next.inj ht
    exact hl
  | unusedCode => cases ht
  | stuckFails | lineFails =>
    obtain rfl := Host.Outcome.next.inj ht
    exact (State.abort_line _ _).trans hl
  | stuckWaits _ _ hup | receives hup | timesOut hup | waits hup | acts _ _ hup => exact absurd hl hup

theorem setLine_of_failed (hb : s.ctl.busy = true) (hl : s.line = .failed) (l : Line) : setLine l s = s := by
  obtain e | ⟨hfree, -⟩ := setLine_cases l s
  · exact e
  · exact absurd ⟨hb, hl⟩ hfree

/-- Log 27: no move of the environment brings up the failed line of a busy endpoint. -/
theorem applyInput_line_failed {m : Input} (hm : m ≠ .turn) (hb : s.ctl.busy = true) (hl : s.line = .failed)
    (ht : applyInput m s = .next t) : t.line = .failed := by
  cases m with
  | turn => exact absurd rfl hm
  | arrive | read | reset =>
    obtain rfl := Host.Outcome.next.inj ht
    exact hl
  | tick =>
    obtain rfl := Host.Outcome.next.inj ht
    exact s.tick_line.trans hl
  | lineFail =>
    obtain rfl := Host.Outcome.next.inj ht
    rfl
  | lineFailAfter | lineStallAfter | lineUp =>
    obtain rfl := Host.Outcome.next.inj ht
    rw [setLine_of_failed hb hl, hl]
  | write idx v =>
    obtain rfl := Host.Outcome.next.inj ((hostWrite_of_busy hb idx v).symm.trans ht)
    exact hl
  | setFiles files =>
    have hrefused : hostFiles files s = .refused .fileListChangedWhileBusy := by simp [hostFiles, hb]
    exact nomatch hrefused.symm.trans ht

/-- R278, R306: a step is the engine's turn or an input of its environment, up to the list of inputs. -/
theorem step_eq_engineStep_or_applyInput (s : State) :
    (∃ more, step s = engineStep { s with inputs := more }) ∨
      ∃ m more, m ≠ .turn ∧ step s = applyInput m { s with inputs := more } := by
  cases hi : s.inputs with
  | nil => exact .inl ⟨[], by rw [step_nil hi, ← hi]⟩
  | cons m more =>
    rw [step_cons hi]
    by_cases hm : m = .turn
    · exact .inl ⟨more, by rw [hm]; rfl⟩
    · exact .inr ⟨m, more, hm, rfl⟩

end

/-- Settles O33: LINEFAIL is the first test of a busy step; nothing brings a failed line up while the endpoint is busy;
and the engine's turn is quiescent outside a session. -/
theorem lineFailureComesFirst : Obligations.LineFailureComesFirst := by
  refine ⟨fun s hp hs hi hl => ?_, fun s t hb hl ht => ?_, fun s hp hi => ?_⟩
  · rw [step_nil hi, engineStep_of_inSession hp hs, busyStep_of_line_failed hl]
  · obtain ⟨more, e⟩ | ⟨m, more, hm, e⟩ := step_eq_engineStep_or_applyInput s
    · exact (engineStep_turn { s with inputs := more }).line_failed hl (e ▸ ht)
    · exact applyInput_line_failed (s := { s with inputs := more }) hm hb hl (e ▸ ht)
  · rw [step_nil hi, engineStep_quiescent (by simpa using hp)]

/-! ### The timer (R309, R321) -/

section
variable {s : State}

theorem State.tick_of_listening (hw : s.listening = true) : s.tick = { s with
    ctl := { s.ctl with tmr := if s.ctl.tmr < s.ctl.tlim then s.ctl.tmr + 1 else s.ctl.tlim } } := by
  have htmr : BitVec.ofNat 16 (min (s.ctl.tmr.toNat + 1) s.ctl.tlim.toNat) =
      if s.ctl.tmr < s.ctl.tlim then s.ctl.tmr + 1 else s.ctl.tlim := by
    split
    next hlt =>
      have hle : s.ctl.tmr.toNat + 1 ≤ s.ctl.tlim.toNat := BitVec.lt_def.1 hlt
      rw [Nat.min_eq_left hle, BitVec.ofNat_add, BitVec.ofNat_toNat, BitVec.setWidth_eq]
      rfl
    next hge =>
      rw [Nat.min_eq_right (Nat.le_succ_of_le (Nat.not_lt.1 fun hlt => hge (BitVec.lt_def.2 hlt))),
        BitVec.ofNat_toNat, BitVec.setWidth_eq]
  rw [State.tick, if_pos hw, htmr]

theorem State.tick_of_not_listening (hw : s.listening = false) : s.tick = s := by simp [State.tick, hw]

/-- R309: a WAIT with no byte queued, by whether the timer has reached its limit. -/
theorem waitStep_of_silent (hq : s.rxq = []) :
    waitStep s = .next (if s.ctl.tmr = s.ctl.tlim then s.abort .timeout else s.tick) := by
  simp only [waitStep, hq]
  split
  · rfl
  · rfl

/-- R309: the engine's turn in a silent WAIT. -/
theorem step_of_silent (hw : s.listening = true) (hi : s.inputs = []) (hl : s.line ≠ .failed) (hq : s.rxq = []) :
    step s = .next (if s.ctl.tmr = s.ctl.tlim then s.abort .timeout else s.tick) := by
  rw [step_nil hi, engineStep_of_listening hw hl, waitStep_of_silent hq]

end

/-- Settles O35: the silent turn is TMO at the limit and a tick below it (`step_of_silent`), and a tick counts in a WAIT
only. -/
theorem timeoutExactlyAtLimit : Obligations.TimeoutExactlyAtLimit := by
  refine ⟨fun s hw hi hl hq ht => ?_, fun s hw hi hl hq ht => ?_, fun s more hi hw => ?_, fun s more hi hw => ?_⟩
  · rw [step_of_silent hw hi hl hq, if_pos ht]
  · rw [step_of_silent hw hi hl hq, if_neg (BitVec.ne_of_lt ht), State.tick_of_listening hw, if_pos ht]
  · rw [step_cons hi]
    exact congrArg _ (State.tick_of_listening (s := { s with inputs := more }) hw)
  · rw [step_cons hi]
    exact congrArg _ (State.tick_of_not_listening (s := { s with inputs := more }) hw)

/-! ### Which cause can end which step (R301, R303, R305) -/

/-- R301: where a step that begins in `s` can raise a cause; `line` is the line's condition at the raise. -/
def AbortReason (s : State) (line : Line) : Cause → Prop
  | .none => False
  | .timeout => s.listening = true ∧ s.rxq = [] ∧ s.ctl.tmr = s.ctl.tlim ∧ s.line ≠ .failed
  | .unexpected => s.pos ∈ [Pos.s3, .s6, .s8, .r2] ∧ s.listening = true ∧ s.rxq ≠ []
  | .lineIo => line = .failed
  | .fileIo => s.pos ∈ [Pos.s2, .s9, .s7, .r6, .r8]
  | .retryLimit => s.pos = .s8 ∧ s.cfg.retryLimit ≠ 0 ∧ s.snd.retry = s.cfg.retryLimit

/-- `t` is where an abort of a step that began in `s` leads: it records the state and the role of `s`, and a cause that
`s` allows. -/
structure AbortedFrom (s t : State) : Prop where
  abortSt : t.ctl.abortSt = s.ctl.st
  roleAct : t.ctl.roleAct = s.ctl.roleAct
  reason : AbortReason s t.line t.ctl.cause

/-- Before it ends, a step that began in `s` writes no control register but `files_done`. -/
def State.KeepsControl (s m : State) : Prop := ∃ n, m.ctl = { s.ctl with filesDone := n }

/-- A part of a step that began in `s` leads to ABORTED only by an abort that `s` allows. -/
def Flow.AbortsFrom (s : State) : Flow → Prop
  | .go t => t.ctl.aborted = s.ctl.aborted
  | .ended t => t.ctl.aborted = s.ctl.aborted ∨ AbortedFrom s t
  | .stuck _ | .fault _ | .refused _ => True

section
variable {s m : State}

theorem State.KeepsControl.refl (s : State) : s.KeepsControl s := ⟨_, rfl⟩

theorem State.KeepsControl.requeue (s : State) (b : Byte) : (s.requeue b).KeepsControl s := ⟨_, rfl⟩

theorem State.KeepsControl.aborted (h : s.KeepsControl m) : m.ctl.aborted = s.ctl.aborted := by
  obtain ⟨n, hn⟩ := h
  rw [hn]

theorem State.KeepsControl.of_hostCall {t : State} {op : HostOp} {a : Answer} (h : s.KeepsControl m)
    (hc : m.hostCall op = (a, t)) : s.KeepsControl t := by
  obtain ⟨hctl, -⟩ := State.hostCall_keeps hc
  rwa [State.KeepsControl, hctl]

/-- R303, R310: the status registers after `raise Abort(c)` in `m`. -/
theorem abortedFrom_abort (hm : s.KeepsControl m) {c : Cause} (hc : AbortReason s m.line c) :
    AbortedFrom s (m.abort c) := by
  obtain ⟨n, hn⟩ := hm
  refine ⟨?_, ?_, ?_⟩
  · simp [Ctl.abort, hn]
  · simp [Ctl.abort, hn]
  · simpa [Ctl.abort] using hc

theorem State.abort_abortsFrom (hm : s.KeepsControl m) {c : Cause} (hc : AbortReason s m.line c) :
    (Flow.ended (m.abort c)).AbortsFrom s := .inr (abortedFrom_abort hm hc)

/-- R66, R186: a transmission raises LINE_IO only, on a line that has failed by then. -/
theorem State.tx_andThen_abortsFrom (hm : s.KeepsControl m) (b : Byte) {next : State → Flow}
    (h : ∀ tr l, (next { m with trace := tr, line := l }).AbortsFrom s) :
    ((m.tx b).andThen next).AbortsFrom s := by
  obtain ⟨-, e⟩ | ⟨-, e⟩ | ⟨hl, e⟩ | ⟨-, e⟩ := m.tx_cases b
  all_goals rw [e]
  · exact h _ _
  · exact State.abort_abortsFrom (m := { m with line := .failed }) hm rfl
  · exact State.abort_abortsFrom hm hl
  · trivial

theorem State.reply_abortsFrom (hm : s.KeepsControl m) (b : Byte) (st : St) : (m.reply b st).AbortsFrom s :=
  State.tx_andThen_abortsFrom hm b fun _ _ => hm.aborted

/-! The sender's parts of a step. -/

/-- R173: the file sequencer raises FILE_IO where the source does not open the file. -/
theorem State.nextFile_abortsFrom (hm : s.KeepsControl m) (hfile : ∀ l, AbortReason s l .fileIo) (x : BitVec 16) :
    (m.nextFile x).AbortsFrom s := by
  have hat : s.KeepsControl (m.atFile x) := hm
  unfold State.nextFile
  dsimp only
  split
  next =>
    split
    next t hc => exact State.abort_abortsFrom (hat.of_hostCall hc) (hfile _)
    next t hc =>
      split
      next => trivial
      next => exact (hat.of_hostCall hc).aborted
  next => exact State.tx_andThen_abortsFrom hat _ fun _ _ => .inl hm.aborted

/-- R141: assembly raises FILE_IO where the source cannot read. -/
theorem State.assemble_abortsFrom (hp : s.pos = .s7) : s.assemble.AbortsFrom s := by
  have hs := State.KeepsControl.refl s
  unfold State.assemble
  split
  next =>
    split
    next t hc => exact State.abort_abortsFrom (hs.of_hostCall hc) (by simp [AbortReason, hp])
    next t hc =>
      split
      next => trivial
      next =>
        split
        next => exact (hs.of_hostCall hc).aborted
        next => trivial
  next => trivial

theorem State.KeepsControl.byteDelay (s : State) : s.KeepsControl s.byteDelay := by
  unfold State.byteDelay
  split
  · exact ⟨_, rfl⟩
  · exact ⟨_, rfl⟩

theorem State.streamed_aborted (s : State) : s.streamed.ctl.aborted = s.ctl.aborted := by
  unfold State.streamed; split <;> rfl

theorem State.stream_abortsFrom (s : State) : s.stream.AbortsFrom s := by
  have hd := State.KeepsControl.byteDelay s
  unfold State.stream
  split
  next => trivial
  next b _ => exact State.tx_andThen_abortsFrom hd b fun _ _ => (State.streamed_aborted _).trans hd.aborted

/-- R187: an ACT step raises FILE_IO in S2, S7 and S9, and LINE_IO wherever it transmits. -/
theorem actFlow_abortsFrom (s : State) : (actFlow s).AbortsFrom s := by
  have hs := State.KeepsControl.refl s
  unfold actFlow
  cases hp : s.pos with
  | s1 | s3 | s5 | s8 => exact State.tx_andThen_abortsFrom hs _ fun _ _ => rfl
  | s2 =>
    have hfile (l : Line) : AbortReason s l .fileIo := by simp [AbortReason, hp]
    exact State.tx_andThen_abortsFrom hs _ fun _ _ => State.nextFile_abortsFrom (by exact hs) hfile _
  | s4 =>
    dsimp only [actS4]
    split
    · trivial
    · exact State.tx_andThen_abortsFrom hs _ fun _ _ => rfl
  | s6 =>
    dsimp only [actS6]
    split
    · exact State.tx_andThen_abortsFrom hs _ fun _ _ => rfl
    · exact State.tx_andThen_abortsFrom hs _ fun _ _ => rfl
  | s7 =>
    dsimp only [actS7]
    split
    · exact s.stream_abortsFrom
    · exact State.assemble_abortsFrom hp
  | s9 =>
    have hfile (l : Line) : AbortReason s l .fileIo := by simp [AbortReason, hp]
    exact State.nextFile_abortsFrom ⟨s.ctl.filesDone + 1, by simp⟩ hfile _
  | r1 | r2 | r3 | r4 | r5 | r6 | r7 | r8 | idle | done | aborted | unused => rfl

/-! The receiver's parts of a step. -/

theorem State.openSink_abortsFrom (hm : s.KeepsControl m) : m.openSink.AbortsFrom s := by
  unfold State.openSink
  split
  next hc =>
    have ht := hm.of_hostCall hc
    exact State.reply_abortsFrom (by exact ht) _ _
  next hc => exact State.reply_abortsFrom (hm.of_hostCall hc) _ _

theorem State.closeSink_abortsFrom (hm : s.KeepsControl m) (hp : s.pos = .r6) : m.closeSink.AbortsFrom s := by
  unfold State.closeSink
  split
  next hc => exact State.abort_abortsFrom (hm.of_hostCall hc) (by simp [AbortReason, hp])
  next hc => exact (hm.of_hostCall hc).aborted

theorem State.writeBlock_abortsFrom (hm : s.KeepsControl m) (hp : s.pos = .r8) : m.writeBlock.AbortsFrom s := by
  unfold State.writeBlock
  split
  next hc => exact State.abort_abortsFrom (hm.of_hostCall hc) (by simp [AbortReason, hp])
  next hc =>
    have ht := hm.of_hostCall hc
    exact State.reply_abortsFrom (by exact ht) _ _

/-! The responses to a byte. The step began with the byte still at the head of the queue: in `s.requeue b`. -/

/-- R175, R181, R184, R223: a byte that the state does not expect. -/
theorem State.unexpected_abortsFrom (hw : s.listening = true) (hp : s.pos ∈ [Pos.s3, .s6, .s8, .r2]) (b : Byte) :
    (Flow.ended (s.abort .unexpected)).AbortsFrom (s.requeue b) :=
  State.abort_abortsFrom (c := .unexpected) (.requeue s b) ⟨hp, hw, List.cons_ne_nil _ _⟩

/-- R184, R276: 'B' in S8 raises RETRY_LIMIT at the bound. -/
theorem State.negated_abortsFrom (hp : s.pos = .s8) (b : Byte) : s.negated.AbortsFrom (s.requeue b) := by
  unfold State.negated
  split
  next hbound => exact State.abort_abortsFrom (c := .retryLimit) (.requeue s b) ⟨hp, hbound⟩
  next => rfl

/-- R92: the causes that the response to a byte can raise. -/
theorem respond_abortsFrom (hw : s.listening = true) (b : Byte) : (respond b s).AbortsFrom (s.requeue b) := by
  have hs := State.KeepsControl.requeue s b
  unfold respond
  cases hp : s.pos with
  | s1 | s5 =>
    dsimp only [waitS1, waitS5]
    split
    · rfl
    · rfl
  | s3 | s6 | r2 =>
    dsimp only [waitS3, waitS6, waitR2]
    split
    · rfl
    · exact State.unexpected_abortsFrom hw (by simp [hp]) b
  | s4 =>
    dsimp only [waitS4]
    split
    · trivial
    · split
      · rfl
      · rfl
  | s8 =>
    dsimp only [waitS8]
    split
    · rfl
    · split
      · exact State.negated_abortsFrom hp b
      · exact State.unexpected_abortsFrom hw (by simp [hp]) b
  | r1 =>
    dsimp only [waitR1]
    split
    · exact State.reply_abortsFrom hs _ _
    · rfl
  | r3 =>
    dsimp only [waitR3]
    split
    · exact State.tx_andThen_abortsFrom hs _ fun _ _ => rfl
    · split
      · exact .inl rfl
      · exact State.reply_abortsFrom hs _ _
  | r4 =>
    dsimp only [waitR4]
    split
    · split
      · exact State.tx_andThen_abortsFrom (m := s.storeName b) hs _ fun _ _ => rfl
      · trivial
    · exact State.reply_abortsFrom hs _ _
  | r5 =>
    dsimp only [waitR5]
    split
    · exact State.openSink_abortsFrom hs
    · exact State.reply_abortsFrom hs _ _
  | r6 =>
    dsimp only [waitR6]
    split
    · exact State.tx_andThen_abortsFrom hs _ fun _ _ => rfl
    · split
      · exact State.closeSink_abortsFrom hs hp
      · exact State.reply_abortsFrom hs _ _
  | r7 =>
    dsimp only [waitR7]
    split
    · rfl
    · trivial
  | r8 =>
    dsimp only [waitR8]
    split
    · exact State.writeBlock_abortsFrom hs hp
    · exact State.reply_abortsFrom (by exact hs) _ _
  | s2 | s7 | s9 | idle | done | aborted | unused => rfl

/-! The whole step. -/

theorem Flow.AbortsFrom.next {f : Flow} {before t : State} (h : f.AbortsFrom s)
    (hb : before.ctl.aborted = s.ctl.aborted) (ht : f.outcome before = .next t) :
    t.ctl.aborted = s.ctl.aborted ∨ AbortedFrom s t := by
  obtain rfl | rfl | ⟨u, rfl, rfl⟩ := Flow.outcome_eq_next ht
  · exact .inl h
  · exact h
  · exact .inl hb

theorem State.requeue_of_rxq_eq {b : Byte} {rest : List Byte} (hq : s.rxq = b :: rest) :
    State.requeue { s with rxq := rest } b = s := by
  simp [State.requeue, ← hq]

@[simp] theorem State.tick_aborted (s : State) : s.tick.ctl.aborted = s.ctl.aborted := by
  unfold State.tick; split <;> rfl

/-- R301, R305: an engine's turn that aborts is a turn in a session, for a reason that its state allows. In a stuck step
the state and the role to record are the pending ones, which are still those of `s`. -/
theorem EngineTurn.abortedFrom {o : Host.Outcome State Fault Refusal} {t : State} (h : EngineTurn s o)
    (hstatus : StatusInv s) (ht : o = .next t) :
    t.ctl.aborted = s.ctl.aborted ∨ (s.pos.inSession = true ∧ AbortedFrom s t) := by
  have hself := State.KeepsControl.refl s
  cases h with
  | quiescent | stuckWaits =>
    obtain rfl := Host.Outcome.next.inj ht
    exact .inl rfl
  | unusedCode => cases ht
  | @stuckFails q hp hs hl =>
    obtain rfl := Host.Outcome.next.inj ht
    obtain ⟨-, -, -, -, -, -, hstuck, -⟩ := hstatus
    obtain ⟨-, hrole, hst, -⟩ := hstuck q hs
    exact .inr ⟨hp, hst, hrole, (State.abort_line _ _).trans hl⟩
  | lineFails hp _ hl =>
    obtain rfl := Host.Outcome.next.inj ht
    exact .inr ⟨hp, abortedFrom_abort hself hl⟩
  | @receives b rest _ hw hq =>
    have hresp := respond_abortsFrom (s := { s with rxq := rest }) hw b
    rw [State.requeue_of_rxq_eq hq] at hresp
    exact (hresp.next (before := { s with rxq := rest }) rfl ht).imp_right fun h =>
      ⟨State.inSession_of_listening hw, h⟩
  | timesOut hl hw hq htmr =>
    obtain rfl := Host.Outcome.next.inj ht
    exact .inr ⟨State.inSession_of_listening hw, abortedFrom_abort hself ⟨hw, hq, htmr, hl⟩⟩
  | waits =>
    obtain rfl := Host.Outcome.next.inj ht
    exact .inl s.tick_aborted
  | acts hp => exact ((actFlow_abortsFrom s).next rfl ht).imp_right fun h => ⟨hp, h⟩

/-- R313, R340: the environment's moves leave `aborted`, or clear it by a START or a reset. -/
theorem EnvMove.aborted {i : Input} {t : State} (h : EnvMove i s t) :
    t.ctl.aborted = s.ctl.aborted ∨ t.ctl.aborted = false := by
  cases h with
  | io | configures | lists => exact .inl rfl
  | ticks => exact .inl s.tick_aborted
  | startsSender | startsReceiver | resets => exact .inr rfl

end

/-- Settles O53: only the engine's turn sets `aborted` (`EnvMove.aborted`), and then for a reason of its state
(`EngineTurn.abortedFrom`). -/
theorem abortCausesByState : Obligations.AbortCausesByState := by
  intro s t ⟨hstatus, _⟩ ht hs hab
  obtain ⟨more, e⟩ | ⟨m, more, hm, e⟩ := step_eq_engineStep_or_applyInput s
  · obtain hsame | ⟨hp, hst, hrole, hreason⟩ :=
      (engineStep_turn { s with inputs := more }).abortedFrom hstatus (e ▸ ht)
    · simp [hab, hs] at hsame
    · have hcause (c : Cause) (hc : t.ctl.cause = c) : AbortReason s t.line c := hc ▸ hreason
      exact ⟨hp, hst, hrole, hcause .timeout, hcause .unexpected, hcause .fileIo, hcause .retryLimit,
        hcause .lineIo⟩
  · obtain h | h := (applyInput_envMove hm (e ▸ ht)).aborted
    · simp [hab, hs] at h
    · simp [hab] at h

end Sys2Proof.Machine
end

section
/-! Reset (spec/70_reset_and_hazards.md): from any state, whatever is in progress. -/

namespace Sys2Proof.Machine

/-- R52, R340: reset writes every register and drops a stuck transmission; the line's condition, the host's fields and
the trace keep their values. -/
theorem State.engineReset_eq (s : State) (keep : Bool) :
    s.engineReset keep = { State.reset with
      inputs := s.inputs, rxq := if keep then s.rxq else [], line := s.line, files := s.files, trace := s.trace
      answers := s.answers, draws := s.draws } := rfl

/-- R340: no state and no failed line holds a reset back. -/
theorem step_of_reset {s : State} {keep : Bool} {more : List Input} (hi : s.inputs = .reset keep :: more) :
    step s = .next ({ s with inputs := more }.engineReset keep) := step_cons hi

/-- Settles O40: the step is the reset itself (`step_of_reset`), which leaves what lies outside the engine as it was
(`State.engineReset_eq`). -/
theorem resetFromAnyState : Obligations.ResetFromAnyState := by
  intro s keep more hi
  rw [step_of_reset hi, State.engineReset_eq]

end Sys2Proof.Machine
end
